-- ==== Sys2Proof/Word.lean ====
section
/-! DEFINITION. The word types of the block: widths of 10_state.md rule R14 and 30_encoding.md rules R44 and R45. -/

namespace Sys2Proof

/-- A command word, a response word, a read-port word: 16 bits (rules R44, R11, R31). -/
abbrev Word := BitVec 16

/-- A key code, the modifier set, an axis, a channel's ARG: 8 bits (rules R15, R16, R18, R7). -/
abbrev Byte := BitVec 8

/-- A 2-bit encoder code, `pin_a` in bit 1 and `pin_b` in bit 0 (rules R13, R54). -/
abbrev Code := BitVec 2

/-- A channel field CH, or a debounce count: 4 bits (rules R45, R24). -/
abbrev Nibble := BitVec 4

end Sys2Proof
end

