-- ==== Sys2Proof/Syntax.lean ====
section
/-! DEFINITION. The commands of 30_encoding.md rule R47, one constructor per row of spec/opcode_table.json, and the
assembler names of rules R52 and R53. -/

namespace Sys2Proof

/-- One command. The operand fields have the widths of rule R45, so every value of them can be encoded. -/
inductive Instr
  /-- NOP (43_emission_and_control.md R86). -/
  | nop
  /-- POLL (41_debounce_sampler.md R69). -/
  | poll
  /-- QDEC ch, a, b (40_quadrature_decoder.md R60). -/
  | qdec (ch : Nibble) (a b : Bool)
  /-- DSAMP ch, r (41_debounce_sampler.md R70). -/
  | dsamp (ch : Nibble) (r : Bool)
  /-- EMIT (43_emission_and_control.md R83). -/
  | emit
  /-- CTICK (42_connection_lifecycle.md R79). -/
  | ctick
  /-- START (42_connection_lifecycle.md R74). -/
  | start
  /-- STOP (42_connection_lifecycle.md R75). -/
  | stop
  /-- ADVERTISE (42_connection_lifecycle.md R76). -/
  | advertise
  /-- LINK_UP (42_connection_lifecycle.md R77). -/
  | linkUp
  /-- LINK_DOWN (42_connection_lifecycle.md R78). -/
  | linkDown
  /-- CLRSTAT (43_emission_and_control.md R87). -/
  | clrstat
  /-- RESERVED_C: operation code 0xC, the other 12 bits free (30_encoding.md R49, R50). -/
  | reservedC (low : BitVec 12)
  /-- RESERVED_D: operation code 0xD (R49, R50). -/
  | reservedD (low : BitVec 12)
  /-- RESERVED_E: operation code 0xE (R49, R50). -/
  | reservedE (low : BitVec 12)
  /-- RESERVED_F: operation code 0xF (R49, R50). -/
  | reservedF (low : BitVec 12)
  deriving DecidableEq, Repr

/-- The mnemonic of a command's row in spec/opcode_table.json. -/
def Instr.mnemonic : Instr → String
  | .nop => "NOP"
  | .poll => "POLL"
  | .qdec _ _ _ => "QDEC"
  | .dsamp _ _ => "DSAMP"
  | .emit => "EMIT"
  | .ctick => "CTICK"
  | .start => "START"
  | .stop => "STOP"
  | .advertise => "ADVERTISE"
  | .linkUp => "LINK_UP"
  | .linkDown => "LINK_DOWN"
  | .clrstat => "CLRSTAT"
  | .reservedC _ => "RESERVED_C"
  | .reservedD _ => "RESERVED_D"
  | .reservedE _ => "RESERVED_E"
  | .reservedF _ => "RESERVED_F"

/-- The pseudo-instruction TICK of rule R53: "POLL; EMIT; CTICK, in that order". -/
def Instr.tick : List Instr := [.poll, .emit, .ctick]

end Sys2Proof
end

