-- ==== Sys2Proof/Decode.lean ====
section
/-! DEFINITION. Decoding and encoding of command words: 30_encoding.md rules R44 to R51. -/

namespace Sys2Proof

/-- The opcode map of rule R47 as data: mnemonic, match, mask. -/
structure OpcodeRow where
  mnemonic : String
  pattern : Word
  mask : Word
  deriving DecidableEq, Repr

/-- The rows of rule R47, the four reserved operation codes written out as spec/opcode_table.json has them. -/
def opcodeMap : List OpcodeRow :=
  [ { mnemonic := "NOP", pattern := 0x0000, mask := 0xFFFF },
    { mnemonic := "POLL", pattern := 0x1000, mask := 0xFFFF },
    { mnemonic := "QDEC", pattern := 0x2000, mask := 0xF0FC },
    { mnemonic := "DSAMP", pattern := 0x3000, mask := 0xF0FE },
    { mnemonic := "EMIT", pattern := 0x4000, mask := 0xFFFF },
    { mnemonic := "CTICK", pattern := 0x5000, mask := 0xFFFF },
    { mnemonic := "START", pattern := 0x6000, mask := 0xFFFF },
    { mnemonic := "STOP", pattern := 0x7000, mask := 0xFFFF } ] ++
  [ { mnemonic := "ADVERTISE", pattern := 0x8000, mask := 0xFFFF },
    { mnemonic := "LINK_UP", pattern := 0x9000, mask := 0xFFFF },
    { mnemonic := "LINK_DOWN", pattern := 0xA000, mask := 0xFFFF },
    { mnemonic := "CLRSTAT", pattern := 0xB000, mask := 0xFFFF },
    { mnemonic := "RESERVED_C", pattern := 0xC000, mask := 0xF000 },
    { mnemonic := "RESERVED_D", pattern := 0xD000, mask := 0xF000 },
    { mnemonic := "RESERVED_E", pattern := 0xE000, mask := 0xF000 },
    { mnemonic := "RESERVED_F", pattern := 0xF000, mask := 0xF000 } ]

/-- `(cmd & mask) == match` (rule R47). -/
def OpcodeRow.selects (r : OpcodeRow) (w : Word) : Bool := (w &&& r.mask) == r.pattern

/-- Why a word with a defined operation code is no command: the field of rule R45 whose must-be-zero bits are not zero. -/
inductive Malformed
  /-- CH must be 0 for this operation. -/
  | channelNotZero
  /-- DATA, or the part of it that carries no operand, must be 0. -/
  | dataNotZero
  deriving DecidableEq, Repr

/-- `OP = cmd[15:12]` (rule R45). -/
def opField (w : Word) : Nibble := w.extractLsb' 12 4
/-- `CH = cmd[11:8]`. -/
def chField (w : Word) : Nibble := w.extractLsb' 8 4
/-- `DATA = cmd[7:0]`. -/
def dataField (w : Word) : Byte := w.extractLsb' 0 8
/-- The 12 bits below OP, free in a reserved word. -/
def lowField (w : Word) : BitVec 12 := w.extractLsb' 0 12

/-- An operation without operands: CH and DATA must be 0 (rule R45). -/
def decodePlain (w : Word) (i : Instr) : Except Malformed Instr :=
  if chField w ≠ 0 then .error .channelNotZero
  else if dataField w ≠ 0 then .error .dataNotZero
  else .ok i

/-- QDEC: `DATA[7:2]` must be 0, `DATA[1]` is `pin_a`, `DATA[0]` is `pin_b` (rule R45). -/
def decodeQdec (w : Word) : Except Malformed Instr :=
  if (dataField w).extractLsb' 2 6 ≠ 0 then .error .dataNotZero
  else .ok (.qdec (chField w) ((dataField w).getLsbD 1) ((dataField w).getLsbD 0))

/-- DSAMP: `DATA[7:1]` must be 0, `DATA[0]` is the raw value (rule R45). -/
def decodeDsamp (w : Word) : Except Malformed Instr :=
  if (dataField w).extractLsb' 1 7 ≠ 0 then .error .dataNotZero
  else .ok (.dsamp (chField w) ((dataField w).getLsbD 0))

/-- Total on all 2^16 words (rule R48): a command, or the reason the word is malformed. The execute-time range check,
which needs the configuration, is in the meanings of QDEC and DSAMP. -/
def decode (w : Word) : Except Malformed Instr :=
  match (opField w).toNat with
  | 0x0 => decodePlain w .nop
  | 0x1 => decodePlain w .poll
  | 0x2 => decodeQdec w
  | 0x3 => decodeDsamp w
  | 0x4 => decodePlain w .emit
  | 0x5 => decodePlain w .ctick
  | 0x6 => decodePlain w .start
  | 0x7 => decodePlain w .stop
  | 0x8 => decodePlain w .advertise
  | 0x9 => decodePlain w .linkUp
  | 0xA => decodePlain w .linkDown
  | 0xB => decodePlain w .clrstat
  | 0xC => .ok (.reservedC (lowField w))
  | 0xD => .ok (.reservedD (lowField w))
  | 0xE => .ok (.reservedE (lowField w))
  | _ => .ok (.reservedF (lowField w))

/-- The word `OP CH DATA` (rule R44). -/
def commandWord (op : Nibble) (ch : Nibble) (data : Byte) : Word := op ++ ch ++ data

/-- The word of a command (rules R45, R47). -/
def encode : Instr → Word
  | .nop => commandWord 0x0 0 0
  | .poll => commandWord 0x1 0 0
  | .qdec ch a b => commandWord 0x2 ch (0#6 ++ BitVec.ofBool a ++ BitVec.ofBool b)
  | .dsamp ch r => commandWord 0x3 ch (0#7 ++ BitVec.ofBool r)
  | .emit => commandWord 0x4 0 0
  | .ctick => commandWord 0x5 0 0
  | .start => commandWord 0x6 0 0
  | .stop => commandWord 0x7 0 0
  | .advertise => commandWord 0x8 0 0
  | .linkUp => commandWord 0x9 0 0
  | .linkDown => commandWord 0xA 0 0
  | .clrstat => commandWord 0xB 0 0
  | .reservedC low => 0xC#4 ++ low
  | .reservedD low => 0xD#4 ++ low
  | .reservedE low => 0xE#4 ++ low
  | .reservedF low => 0xF#4 ++ low

/-- The command the decoder reads from a word numbered as spec/opcode_table.json numbers it. A command is one 16-bit
word (R44, R51) with no byte order (20_memory.md R34): the word goes to the command port as it is. -/
def decodeTableWord (nbits w : Nat) : Option Instr :=
  if w % 2 ^ nbits < 2 ^ 16 then (decode (BitVec.ofNat 16 (w % 2 ^ nbits))).toOption else none

end Sys2Proof
end

