-- ==== Sys2Proof/Config.lean ====
section
/-! DEFINITION. The configuration of 00_scope.md rules R6 and R7: what is fixed when the block is instantiated.
The opaque constants are the values the spec leaves to the outside: no definition and no proof can see what they are. -/

namespace Sys2Proof

/-- The symbol kind of a digital channel (rule R7). -/
inductive ChannelKind
  /-- Button slot `c`: writes `buttons[c]`. -/
  | key
  /-- Sets one bit of `modifiers`. -/
  | mod
  /-- Adds to one axis. -/
  | axis
  /-- Debounced, but contributes nothing. -/
  | none
  deriving DecidableEq, Repr

/-- The polarity of a digital channel (rule R7). -/
inductive Polarity
  /-- Raw 0 means active. -/
  | activeLow
  /-- Raw 1 means active. -/
  | activeHigh
  deriving DecidableEq, Repr

/-- The quadrature transition table in use (rules R6, R56, R57). -/
inductive QdecMode
  /-- The full Gray decode. -/
  | gray
  /-- The literal table of the source's §4.1. -/
  | source0110
  deriving DecidableEq, Repr

/-- `CHCFG[c] = (KIND, ARG, POL)` (rule R7). -/
structure ChannelConfig where
  kind : ChannelKind
  arg : Byte
  pol : Polarity
  deriving DecidableEq, Repr

/-- The parameters of rule R6. Their legal ranges are `Config.wf` (rule R8). -/
structure Config where
  /-- `NB`, number of button slots. -/
  nb : Nat
  /-- `NCH`, number of digital channels. -/
  nch : Nat
  /-- `NE`, number of encoder channels. -/
  ne : Nat
  /-- `CHCFG[c]` for c < NCH, channel 0 first. -/
  chcfg : List ChannelConfig
  /-- `DEBOUNCE_K`. -/
  debounceK : Nat
  /-- `ADV_TIMEOUT_TICKS`. -/
  advTimeoutTicks : Nat
  /-- `ENC_W`. -/
  encW : Nat
  /-- `AXIS_STEP`. -/
  axisStep : Nat
  /-- `QDEC_MODE`. -/
  qdecMode : QdecMode
  deriving DecidableEq, Repr

/-- A channel that contributes nothing. DESIGN CHOICE: its ARG and POL, which rule R6 does not give for the default
"NONE otherwise" (log entry 6, unsafe). -/
def ChannelConfig.unused : ChannelConfig := { kind := .none, arg := 0, pol := .activeLow }

/-- `CHCFG[c]` for c < NCH; a channel that is not listed is the default's "NONE otherwise", and there is no channel
c >= NCH. -/
def Config.channel (cfg : Config) (c : Nat) : ChannelConfig :=
  if c < cfg.nch then cfg.chcfg.getD c ChannelConfig.unused else ChannelConfig.unused

/-- The default `CHCFG[c]` of rule R6: "KEY, code 0x04+c, ACTIVE_LOW for c < NB; NONE otherwise". -/
def ChannelConfig.default (nb c : Nat) : ChannelConfig :=
  if c < nb then { kind := .key, arg := 0x04#8 + BitVec.ofNat 8 c, pol := .activeLow } else ChannelConfig.unused

/-- The defaults of rule R6 (CFG-D of 95_test_vectors.md). -/
def Config.default : Config :=
  { nb := 6, nch := 6, ne := 2
    chcfg := (List.range 6).map (ChannelConfig.default 6)
    debounceK := 2, advTimeoutTicks := 600, encW := 16, axisStep := 1, qdecMode := .gray }

/-- `QD_BASE`, the platform's base address of the block, "which no rule of the block reads" (20_memory.md rule R37). -/
opaque Config.qdBase : Nat

/-! What the environment presents on the input ports in step `n`, where nothing is lined up (log entry 3): the spec lets
the environment present any command and any port values (rules R12, R28, R99). -/

/-- `rst` in step `n`. -/
opaque Config.freeRst : Nat → Bool
/-- `cmd` in step `n`. -/
opaque Config.freeCmd : Nat → Word
/-- `raw_dig` in step `n`. -/
opaque Config.freeRawDig : Nat → BitVec 16
/-- `enc_a` in step `n`. -/
opaque Config.freeEncA : Nat → BitVec 16
/-- `enc_b` in step `n`. -/
opaque Config.freeEncB : Nat → BitVec 16
/-- `send_ok` in step `n`: the draw of rule R12. -/
opaque Config.freeSendOk : Nat → Bool

end Sys2Proof
end

