-- ==== Sys2Proof/WellFormed.lean ====
section
/-! DEFINITION. The checks of 00_scope.md rule R8 on a configuration, one definition each, and the range check of
30_encoding.md rule R48 on a command. -/

namespace Sys2Proof

/-- Every channel of the configuration passes a check. -/
def Config.allChannels (cfg : Config) (p : Nat → ChannelConfig → Bool) : Bool :=
  (List.range cfg.nch).all fun c => p c (cfg.channel c)

/-- R8 (a). -/
def Config.countsOk (cfg : Config) : Bool :=
  decide (1 ≤ cfg.nb) && decide (cfg.nb ≤ 6) && decide (1 ≤ cfg.nch) && decide (cfg.nch ≤ 16) &&
    decide (1 ≤ cfg.ne) && decide (cfg.ne ≤ 16)

/-- R8 (b): every KEY channel has `c < NB` and `ARG != 0`. -/
def Config.keyChannelsOk (cfg : Config) : Bool :=
  cfg.allChannels fun c ch => ch.kind != .key || (decide (c < cfg.nb) && ch.arg != 0)

/-- R8 (c): every MOD channel has `ARG[7:3] = 0`. -/
def Config.modChannelsOk (cfg : Config) : Bool :=
  cfg.allChannels fun _ ch => ch.kind != .mod || ch.arg.extractLsb' 3 5 == 0

/-- R8 (d): every AXIS channel has `ARG[7:2] = 0`. -/
def Config.axisChannelsOk (cfg : Config) : Bool :=
  cfg.allChannels fun _ ch => ch.kind != .axis || ch.arg.extractLsb' 2 6 == 0

/-- R8 (e). -/
def Config.debounceOk (cfg : Config) : Bool := decide (1 ≤ cfg.debounceK) && decide (cfg.debounceK ≤ 15)

/-- R8 (f). -/
def Config.timeoutOk (cfg : Config) : Bool := decide (1 ≤ cfg.advTimeoutTicks) && decide (cfg.advTimeoutTicks ≤ 65535)

/-- R8 (g). -/
def Config.encWidthOk (cfg : Config) : Bool := decide (8 ≤ cfg.encW) && decide (cfg.encW ≤ 16)

/-- R8 (h). -/
def Config.axisStepOk (cfg : Config) : Bool := decide (1 ≤ cfg.axisStep) && decide (cfg.axisStep ≤ 127)

/-- R8: "A configuration is well formed when every one of these checks holds". -/
def Config.wf (cfg : Config) : Bool :=
  cfg.countsOk && cfg.keyChannelsOk && cfg.modChannelsOk && cfg.axisChannelsOk && cfg.debounceOk && cfg.timeoutOk &&
    cfg.encWidthOk && cfg.axisStepOk

/-- The channel operand names a channel of the configuration (30_encoding.md rule R48). The other operand fields are
well formed by their types. -/
def Instr.wf (cfg : Config) : Instr → Bool
  | .qdec ch _ _ => decide (ch.toNat < cfg.ne)
  | .dsamp ch _ => decide (ch.toNat < cfg.nch)
  | .nop => true
  | .poll => true
  | .emit => true
  | .ctick => true
  | .start => true
  | .stop => true
  | .advertise => true
  | .linkUp => true
  | .linkDown => true
  | .clrstat => true
  | .reservedC _ => true
  | .reservedD _ => true
  | .reservedE _ => true
  | .reservedF _ => true

end Sys2Proof
end

