-- ==== Sys2Proof/Machine/State.lean ====
section
/-! DEFINITION. The state of the block (10_state.md), the reasons a step can stop, and the state after reset
(70_reset_and_hazards.md rule R103). -/

namespace Sys2Proof.Machine

/-- `life` (10_state.md rule R20). -/
inductive Life
  | stopped
  | idle
  | advertising
  | connected
  deriving DecidableEq, Repr

/-- The record handed to the transport with `T_SEND` (43_emission_and_control.md rule R84): named fields, no byte string. -/
structure Snapshot where
  buttons : List Byte
  modifiers : Byte
  encoders : List Word
  axisX : Byte
  axisY : Byte
  deriving DecidableEq, Repr

/-- A transport event (00_scope.md rule R12, 60_exceptions.md rule R98). The `snap` port is the argument of `tSend`. -/
inductive Event
  | tStart
  | tStop
  | tAdvStart
  | tAdvStop
  | tSend (snap : Snapshot)
  deriving DecidableEq, Repr

/-- One step's values of the input ports (60_exceptions.md rule R98). Bit `k` of a pin port belongs to channel `k`; the
bits of channels the configuration does not have are read by no rule. -/
structure PortSample where
  rst : Bool
  cmd : Word
  rawDig : BitVec 16
  encA : BitVec 16
  encB : BitVec 16
  sendOk : Bool
  deriving DecidableEq, Repr

/-- Why the block stops with a fault: never. "The block raises no trap, exception or fault, and never halts"
(60_exceptions.md rule R88), so there is no constructor. -/
inductive Fault
  deriving DecidableEq, Repr

/-- Why the model gives a step no meaning. -/
inductive Refusal
  /-- An instruction without a meaning; raised by no arm of `exec`. Safe. -/
  | notModelled (mnemonic : String)
  /-- Raised by `step` alone: the configuration fails a check of 00_scope.md rule R8, "no machine exists for it". Safe. -/
  | illFormedConfig
  deriving DecidableEq, Repr

/-- The state of 10_state.md rule R14, the parameters (log entry 1), the outputs of the last step (log entry 4) and what
the environment presents (log entry 3). -/
structure State where
  /-- The parameters of 00_scope.md rule R6. No step changes them. -/
  cfg : Config
  /-- `buttons[0..NB-1]` (R15). -/
  buttons : List Byte
  /-- `modifiers` (R16). -/
  modifiers : Byte
  /-- `encoders[0..NE-1]` (R17): ENC_W-bit two's complement, held sign-extended (log entry 2). -/
  encoders : List Word
  /-- `axes.x` (R18). -/
  axisX : Byte
  /-- `axes.y` (R18). -/
  axisY : Byte
  /-- `dirty` (R19). -/
  dirty : Bool
  /-- `life` (R20). -/
  life : Life
  /-- `deadline` (R21). -/
  deadline : Word
  /-- `q_prev[0..NE-1]` (R23). -/
  qPrev : List Code
  /-- `q_seeded[0..NE-1]` (R23). -/
  qSeeded : List Bool
  /-- `db_stable[0..NCH-1]` (R24). -/
  dbStable : List Bool
  /-- `db_cnt[0..NCH-1]` (R24). -/
  dbCnt : List Nibble
  /-- `status.BADCMD` (R25). -/
  statusBadcmd : Bool
  /-- `status.IGN` (R25). -/
  statusIgn : Bool
  /-- Output of the last step: its event list (R12, R99). -/
  events : List Event
  /-- Output of the last step: its response word (R11, R12). -/
  resp : Word
  /-- Input: the port samples the environment has lined up, the next step's first. -/
  inputs : List PortSample
  /-- The number of steps taken: the index of the free port samples. Not readable by the block. -/
  time : Nat
  deriving DecidableEq, Repr

/-- Power-on reset of a block with configuration `cfg` (R103): "No field is left unspecified". The last four fields are
the model's own (log entries 3 and 4). -/
def State.resetFor (cfg : Config) : State :=
  { cfg := cfg
    buttons := List.replicate cfg.nb 0
    modifiers := 0x00
    encoders := List.replicate cfg.ne 0
    axisX := 0
    axisY := 0
    dirty := false
    life := .stopped
    deadline := 0
    qPrev := List.replicate cfg.ne 0b00
    qSeeded := List.replicate cfg.ne false
    dbStable := List.replicate cfg.nch false
    dbCnt := List.replicate cfg.nch 0
    statusBadcmd := false
    statusIgn := false
    events := []
    resp := 0
    inputs := []
    time := 0 }

/-- The machine right after reset, with the default configuration of 00_scope.md rule R6. -/
def State.reset : State := State.resetFor Config.default

end Sys2Proof.Machine
end

