-- ==== Sys2Proof/Machine/Operands.lean ====
section
/-! DEFINITION. Where a command's operands come from: the command word's fields, the input ports and the channel
configuration (30_encoding.md R46, 00_scope.md R7 and R10), and the arithmetic of the pseudocode. -/

namespace Sys2Proof.Machine

/-! The input ports of the step. -/

/-- The port sample of step `n` where the environment has lined up none: every value is free (log entry 3). -/
def freeSample (n : Nat) : PortSample :=
  { rst := Config.freeRst n, cmd := Config.freeCmd n, rawDig := Config.freeRawDig n,
    encA := Config.freeEncA n, encB := Config.freeEncB n, sendOk := Config.freeSendOk n }

/-- The input ports as the next step samples them (R11 `in.x`, R12). -/
def State.ports (s : State) : PortSample :=
  match s.inputs with
  | p :: _ => p
  | [] => freeSample s.time

/-- `in.raw_dig[c]` (R69). -/
def State.rawPin (s : State) (c : Nat) : Bool := s.ports.rawDig.getLsbD c

/-- `code = (pin_a << 1) | pin_b` (R46, R54). -/
def packCode (a b : Bool) : Code := BitVec.ofBool a ++ BitVec.ofBool b

/-- `{in.enc_a[j], in.enc_b[j]}` (R69). -/
def State.pinCode (s : State) (j : Nat) : Code := packCode (s.ports.encA.getLsbD j) (s.ports.encB.getLsbD j)

/-! The records of one channel. Between steps every list has its channel count as its length, so the value beyond the
end is never met. -/

/-- `buttons[i]`. -/
def State.button (s : State) (i : Nat) : Byte := s.buttons.getD i 0
/-- `encoders[j]`, sign-extended to 16 bits. -/
def State.encoder (s : State) (j : Nat) : Word := s.encoders.getD j 0
/-- `q_prev[j]`. -/
def State.prevCode (s : State) (j : Nat) : Code := s.qPrev.getD j 0
/-- `q_seeded[j]`. -/
def State.seeded (s : State) (j : Nat) : Bool := s.qSeeded.getD j false
/-- `db_stable[c]`. -/
def State.stable (s : State) (c : Nat) : Bool := s.dbStable.getD c false
/-- `db_cnt[c]`. -/
def State.count (s : State) (c : Nat) : Nibble := s.dbCnt.getD c 0

/-! Channel configuration fields (00_scope.md R7). -/

/-- The polarity-corrected level of a raw pin value (41_debounce_sampler.md R63). -/
def level (pol : Polarity) (raw : Bool) : Bool :=
  match pol with
  | .activeHigh => raw
  | .activeLow => !raw

/-- `1 << ARG[2:0]`: the modifier bit of a MOD channel (R66). -/
def modBit (arg : Byte) : Byte := 1#8 <<< (arg.extractLsb' 0 3).toNat

/-- The axis an AXIS channel adds to. -/
inductive Axis
  | x
  | y
  deriving DecidableEq, Repr

/-- `ARG[0]`: 0 selects x, 1 selects y (R67). -/
def axisOf (arg : Byte) : Axis := if arg.getLsbD 0 then .y else .x

/-- `ARG[1]`: the sign, 0 for + and 1 for − (R67). -/
def signOf (arg : Byte) : Int := if arg.getLsbD 1 then -1 else 1

/-! Arithmetic of the pseudocode (00_scope.md R10). -/

/-- `sext_16(wrap_W(n))`: the W-bit two's-complement value congruent to `n` modulo 2^W, sign-extended. -/
def wrapEnc (w : Nat) (n : Int) : Word := (BitVec.ofInt w n).signExtend 16

/-- `sat8(n) = max(−128, min(127, n))` as an 8-bit value. -/
def sat8 (n : Int) : Byte := BitVec.ofInt 8 (max (-128) (min 127 n))

/-- `zext_16` of one bit. -/
def bitWord (b : Bool) : Word := (BitVec.ofBool b).setWidth 16

/-- The list of `f 0`, …, `f (n-1)`: one entry per channel. -/
def perChannel {α : Type} (n : Nat) (f : Nat → α) : List α := (List.range n).map f

end Sys2Proof.Machine
end

