-- ==== Sys2Proof/Machine/Flags.lean ====
section
/-! DEFINITION. The status register (10_state.md R25), the change rule that sets `dirty` (41_debounce_sampler.md R68),
and the two sticky error bits (30_encoding.md R49, 60_exceptions.md R90). -/

namespace Sys2Proof.Machine

/-- The numeric value of `life` (R20). -/
def Life.bits : Life → BitVec 2
  | .stopped => 0b00
  | .idle => 0b01
  | .advertising => 0b10
  | .connected => 0b11

/-- STATUS (R25): [1:0] LIFE, [2] DIRTY, [3] BADCMD, [4] IGN, [15:5] 0. -/
def State.status (s : State) : Word :=
  0#11 ++ BitVec.ofBool s.statusIgn ++ BitVec.ofBool s.statusBadcmd ++ BitVec.ofBool s.dirty ++ s.life.bits

/-- The digital part of `chg` (R68): a button or the modifiers took a new value, or an axis got a contribution. -/
def digitalChange (s : State) (buttons : List Byte) (modifiers : Byte) (sx sy : Int) : Bool :=
  buttons != s.buttons || modifiers != s.modifiers || sx != 0 || sy != 0

/-- The encoder part of `chg` (R68, 40_quadrature_decoder.md R59): some delta is not 0. -/
def encoderChange (deltas : List Int) : Bool := deltas.any fun d => d != 0

/-- The outputs of a step (00_scope.md R12): its event list and its response word. -/
def State.out (s : State) (events : List Event) (resp : Word) : State := { s with events := events, resp := resp }

/-- A step without effect: "no state change, no event" and `resp = 0`. -/
def State.quiet (s : State) : State := s.out [] 0

/-- `raise BadCmd` (R11, R49): sets `status.BADCMD` and is otherwise without effect. -/
def State.badCmd (s : State) : State := { s with statusBadcmd := true }.quiet

/-- `ignore` (R11, R90): sets `status.IGN` and is otherwise without effect. -/
def State.ignored (s : State) : State := { s with statusIgn := true }.quiet

/-- `status.BADCMD <- 0; status.IGN <- 0` (43_emission_and_control.md R87). -/
def State.clearStatus (s : State) : State := { s with statusBadcmd := false, statusIgn := false }

end Sys2Proof.Machine
end

