-- ==== Sys2Proof/Machine/Ops.lean ====
section
/-! DEFINITION. The operations the commands share: the decode step and the accumulator of an encoder channel, the
debounce step and the symbol mappings of the digital channels, entering ADVERTISING, the snapshot, power-on reset, and
the register read port. An error "exception" of this block is `State.badCmd` or `State.ignored` (Flags): there is no
trap entry and no trap return (60_exceptions.md R94, R95). -/

namespace Sys2Proof.Machine

/-! ## Quadrature decoder (40_quadrature_decoder.md R55 to R58) -/

/-- `T[QDEC_MODE]`, rows `prev` = 00, 01, 10, 11, columns `code` = 00, 01, 10, 11 (R56, R57). The "(same)" cells are
never reached and hold 0. -/
def transitionTable : QdecMode → List (List Int)
  | .gray =>
    [ [ 0,  1, -1,  0],
      [-1,  0,  0,  1],
      [ 1,  0,  0, -1],
      [ 0, -1,  1,  0] ]
  | .source0110 =>
    [ [ 0,  1, -1,  0],
      [ 0,  0, -1,  0],
      [ 0,  1,  0,  0],
      [ 0,  1, -1,  0] ]

/-- `T[QDEC_MODE][prev][code]`. -/
def transition (mode : QdecMode) (prev code : Code) : Int :=
  ((transitionTable mode).getD prev.toNat []).getD code.toNat 0

/-- The result of one decode step: the encoder channel record after it, and the delta. -/
structure QStep where
  prev : Code
  seeded : Bool
  delta : Int
  deriving DecidableEq, Repr

/-- `qstep(prev, seeded, code)` (R55). -/
def qstep (mode : QdecMode) (prev : Code) (seeded : Bool) (code : Code) : QStep :=
  if seeded = false then { prev := code, seeded := true, delta := 0 }
  else if code = prev then { prev := prev, seeded := true, delta := 0 }
  else { prev := code, seeded := true, delta := transition mode prev code }

/-- The decode step of channel `j` on a code, from the record at the start of the step. -/
def State.decodeStep (s : State) (j : Nat) (code : Code) : QStep :=
  qstep s.cfg.qdecMode (s.prevCode j) (s.seeded j) code

/-- `wrap_ENC_W(int(s.encoders[j]) + delta)` (R58). -/
def State.accumulate (s : State) (j : Nat) (delta : Int) : Word :=
  wrapEnc s.cfg.encW ((s.encoder j).toInt + delta)

/-- `for j: q_seeded[j] <- 0` (42_connection_lifecycle.md R72, R75). -/
def State.clearSeeds (s : State) : State := { s with qSeeded := perChannel s.cfg.ne fun _ => false }

/-! ## Debounce sampler (41_debounce_sampler.md R64 to R68) -/

/-- The debounce record of one channel. -/
structure Debounce where
  stable : Bool
  count : Nibble
  deriving DecidableEq, Repr

/-- `dbstep(st, cnt, lvl)` with `K = DEBOUNCE_K` (R64). -/
def dbstep (k : Nat) (st : Bool) (cnt : Nibble) (lvl : Bool) : Debounce :=
  if lvl = st then { stable := st, count := 0 }
  else if cnt.toNat + 1 ≥ k then { stable := lvl, count := 0 }
  else { stable := st, count := cnt + 1 }

/-- Polarity and debounce of channel `c` on a raw pin value (R63, R64). -/
def State.debounceStep (s : State) (c : Nat) (raw : Bool) : Debounce :=
  dbstep s.cfg.debounceK (s.stable c) (s.count c) (level (s.cfg.channel c).pol raw)

/-- The key mapping (R65): slot `i` of a KEY channel holds its code while the channel is stably active, else the
sentinel 0. Any other slot keeps its value. -/
def State.keyMapping (s : State) (st : List Bool) : List Byte :=
  perChannel s.cfg.nb fun i =>
    if (s.cfg.channel i).kind = .key then (if st.getD i false then (s.cfg.channel i).arg else 0) else s.button i

/-- What channel `c` contributes to `modifiers` (R66). -/
def modContribution (cfg : Config) (st : List Bool) (c : Nat) : Byte :=
  if (cfg.channel c).kind = .mod ∧ st.getD c false = true then modBit (cfg.channel c).arg else 0

/-- The modifier mapping (R66): the OR over the MOD channels. -/
def modMapping (cfg : Config) (st : List Bool) : Byte :=
  (List.range cfg.nch).foldr (fun c m => modContribution cfg st c ||| m) 0

/-- What channel `c` contributes to an axis in a step that takes the stable levels from `st0` to `st1` (R67): only on a
rising stable edge of an AXIS channel of that axis. -/
def axisContribution (cfg : Config) (axis : Axis) (st0 st1 : List Bool) (c : Nat) : Int :=
  if (cfg.channel c).kind = .axis ∧ axisOf (cfg.channel c).arg = axis ∧ st0.getD c false = false ∧ st1.getD c false = true
  then signOf (cfg.channel c).arg * cfg.axisStep else 0

/-- `sx` or `sy`: the integer sum of the contributions to an axis (R67). -/
def axisSum (cfg : Config) (axis : Axis) (st0 st1 : List Bool) : Int :=
  ((List.range cfg.nch).map (axisContribution cfg axis st0 st1)).sum

/-- `chg` of R68 without its encoder term, in a step that leaves the stable levels `st`. -/
def State.digitalChg (s : State) (st : List Bool) : Bool :=
  digitalChange s (s.keyMapping st) (modMapping s.cfg st) (axisSum s.cfg .x s.dbStable st) (axisSum s.cfg .y s.dbStable st)

/-- The digital writes that POLL and DSAMP share: the debounce records, `buttons`, `modifiers` and `axes`, all computed
from the state at the start of the step (R65 to R67). -/
def State.writeDigital (s : State) (st : List Bool) (cnt : List Nibble) : State :=
  { s with
    dbStable := st
    dbCnt := cnt
    buttons := s.keyMapping st
    modifiers := modMapping s.cfg st
    axisX := sat8 (s.axisX.toInt + axisSum s.cfg .x s.dbStable st)
    axisY := sat8 (s.axisY.toInt + axisSum s.cfg .y s.dbStable st) }

/-- `if chg: dirty <- 1` (R68); a sampling step never clears `dirty`. -/
def State.markDirty (s : State) (chg : Bool) : State := { s with dirty := s.dirty || chg }

/-- `symbol(c, st1)` (R70): the stable symbol of a channel, or 0 for "none". -/
def symbol (ch : ChannelConfig) (st1 : Bool) : Word :=
  match ch.kind with
  | .key => if st1 then ch.arg.setWidth 16 else 0
  | .mod => if st1 then (modBit ch.arg).setWidth 16 else 0
  | .axis => if st1 then BitVec.ofInt 16 (signOf ch.arg) else 0
  | .none => bitWord st1

/-! ## Lifecycle and emission (42_connection_lifecycle.md R73, 43_emission_and_control.md R84) -/

/-- `enter_advertising` without its event, which the caller puts out (R73). -/
def State.enterAdvertising (s : State) : State :=
  { s with life := .advertising, deadline := BitVec.ofNat 16 s.cfg.advTimeoutTicks }

/-- `snapshot(s)` (R84). -/
def State.snapshot (s : State) : Snapshot :=
  { buttons := s.buttons, modifiers := s.modifiers, encoders := s.encoders, axisX := s.axisX, axisY := s.axisY }

/-! ## Reset and the passing of a step -/

/-- A step with `rst` high (70_reset_and_hazards.md R103): every field takes its reset value. The configuration and what
the environment has lined up are not state of the block and stay (log entry 5). -/
def State.powerOnReset (s : State) : State := { State.resetFor s.cfg with inputs := s.inputs, time := s.time }

/-- The step has consumed its port sample. -/
def State.consumed (s : State) : State := { s with inputs := s.inputs.tail, time := s.time + 1 }

/-! ## The register read port (20_memory.md R31 to R33) -/

/-- `Reg(addr)`: a read has no side effect, so it is a function of the state between two steps. An address that R32 does
not list reads 0 (R33). -/
def State.readPort (s : State) (addr : BitVec 8) : Word :=
  let a := addr.toNat
  if a = 0x00 then s.status
  else if a = 0x01 then s.deadline
  else if a = 0x02 then s.modifiers.setWidth 16
  else if a = 0x03 then s.axisY ++ s.axisX
  else if 0x10 ≤ a ∧ a < 0x10 + s.cfg.nb then (s.button (a - 0x10)).setWidth 16
  else if 0x20 ≤ a ∧ a < 0x20 + s.cfg.ne then s.encoder (a - 0x20)
  else if 0x30 ≤ a ∧ a < 0x30 + s.cfg.ne then
    0#13 ++ BitVec.ofBool (s.seeded (a - 0x30)) ++ s.prevCode (a - 0x30)
  else if 0x40 ≤ a ∧ a < 0x40 + s.cfg.nch then
    0#8 ++ s.count (a - 0x40) ++ 0#3 ++ BitVec.ofBool (s.stable (a - 0x40))
  else 0

end Sys2Proof.Machine
end

