-- ==== Sys2Proof/Machine/Emission.lean ====
section
/-! DEFINITION. The emission and control family (43_emission_and_control.md): EMIT, NOP and CLRSTAT. -/

namespace Sys2Proof.Machine

/-- EMIT (R83). `send_ok` is read only where `T_SEND` is put out. -/
def execEmit (s : State) : Host.Outcome State Fault Refusal :=
  if s.dirty = false then .next s.quiet
  else
    match s.life with
    | .stopped => .next s.quiet
    | .idle => .next (s.enterAdvertising.out [.tAdvStart] 0x0002)
    | .advertising => .next s.quiet
    | .connected =>
      if s.ports.sendOk then
        .next ({ s with dirty := false, axisX := 0, axisY := 0 }.out [.tSend s.snapshot] 0x0001)
      else .next (s.out [.tSend s.snapshot] 0x0000)

/-- NOP (R86). -/
def execNop (s : State) : Host.Outcome State Fault Refusal := .next s.quiet

/-- CLRSTAT (R87). -/
def execClrstat (s : State) : Host.Outcome State Fault Refusal := .next s.clearStatus.quiet

end Sys2Proof.Machine
end

