-- ==== Sys2Proof/Machine/Lifecycle.lean ====
section
/-! DEFINITION. The connection lifecycle family (42_connection_lifecycle.md): START, STOP, ADVERTISE, LINK_UP, LINK_DOWN
and CTICK. The transition matrix is rule R72. -/

namespace Sys2Proof.Machine

/-- START (R74). -/
def execStart (s : State) : Host.Outcome State Fault Refusal :=
  match s.life with
  | .stopped => .next ({ s with life := .idle }.out [.tStart] 0)
  | .idle | .advertising | .connected => .next s.ignored

/-- STOP (R75): legal in every state. -/
def execStop (s : State) : Host.Outcome State Fault Refusal :=
  match s.life with
  | .stopped => .next s.quiet
  | .advertising => .next ({ s.clearSeeds with life := .stopped, deadline := 0 }.out [.tAdvStop, .tStop] 0)
  | .idle | .connected => .next ({ s.clearSeeds with life := .stopped, deadline := 0 }.out [.tStop] 0)

/-- ADVERTISE (R76). -/
def execAdvertise (s : State) : Host.Outcome State Fault Refusal :=
  match s.life with
  | .idle => .next (s.enterAdvertising.out [.tAdvStart] 0)
  | .stopped | .advertising | .connected => .next s.ignored

/-- LINK_UP (R77): no event. -/
def execLinkUp (s : State) : Host.Outcome State Fault Refusal :=
  match s.life with
  | .advertising => .next { s with life := .connected, deadline := 0 }.quiet
  | .stopped | .idle | .connected => .next s.ignored

/-- LINK_DOWN (R78): no event. -/
def execLinkDown (s : State) : Host.Outcome State Fault Refusal :=
  match s.life with
  | .connected => .next { s with life := .idle }.quiet
  | .stopped | .idle | .advertising => .next s.ignored

/-- CTICK (R79): decrement, then test for 0. -/
def execCtick (s : State) : Host.Outcome State Fault Refusal :=
  match s.life with
  | .advertising =>
    if s.deadline - 1 = 0 then .next ({ s with life := .idle, deadline := 0 }.out [.tAdvStop] 0)
    else .next { s with deadline := s.deadline - 1 }.quiet
  | .stopped | .idle | .connected => .next s.quiet

end Sys2Proof.Machine
end

