-- ==== Sys2Proof/Machine/Quadrature.lean ====
section
/-! DEFINITION. The quadrature decoder family (40_quadrature_decoder.md): QDEC. -/

namespace Sys2Proof.Machine

/-- QDEC j, a, b (R60). Checks in the order of 60_exceptions.md R92: range, then STOPPED gating. -/
def execQdec (ch : Nibble) (a b : Bool) (s : State) : Host.Outcome State Fault Refusal :=
  let j := ch.toNat
  let q := s.decodeStep j (packCode a b)
  if ¬ j < s.cfg.ne then .next s.badCmd
  else if s.life = .stopped then .next s.quiet
  else
    .next (({ s with
      qPrev := s.qPrev.set j q.prev
      qSeeded := s.qSeeded.set j q.seeded
      encoders := s.encoders.set j (s.accumulate j q.delta) }.markDirty (q.delta != 0)).out [] (BitVec.ofInt 16 q.delta))

end Sys2Proof.Machine
end

