-- ==== Sys2Proof/Machine/Reserved.lean ====
section
/-! DEFINITION. The reserved operation codes 0xC to 0xF (30_encoding.md R49, R50): BadCmd, whatever the other bits. -/

namespace Sys2Proof.Machine

/-- RESERVED_C (R49). -/
def execReservedC (_low : BitVec 12) (s : State) : Host.Outcome State Fault Refusal := .next s.badCmd

/-- RESERVED_D (R49). -/
def execReservedD (_low : BitVec 12) (s : State) : Host.Outcome State Fault Refusal := .next s.badCmd

/-- RESERVED_E (R49). -/
def execReservedE (_low : BitVec 12) (s : State) : Host.Outcome State Fault Refusal := .next s.badCmd

/-- RESERVED_F (R49). -/
def execReservedF (_low : BitVec 12) (s : State) : Host.Outcome State Fault Refusal := .next s.badCmd

end Sys2Proof.Machine
end

