-- ==== Sys2Proof/Machine/Sampler.lean ====
section
/-! DEFINITION. The debounce sampler family (41_debounce_sampler.md): POLL and DSAMP. -/

namespace Sys2Proof.Machine

/-- The debounce records after a POLL: every digital channel sampled from `raw_dig` (R69). -/
def State.pollDebounce (s : State) : List Debounce :=
  perChannel s.cfg.nch fun c => s.debounceStep c (s.rawPin c)

/-- The decode steps of a POLL: every encoder channel sampled from `enc_a`, `enc_b` (R69). -/
def State.pollDecode (s : State) : List QStep :=
  perChannel s.cfg.ne fun j => s.decodeStep j (s.pinCode j)

/-- `chg` of a POLL (R68). -/
def State.pollChg (s : State) : Bool :=
  s.digitalChg (s.pollDebounce.map Debounce.stable) || encoderChange (s.pollDecode.map QStep.delta)

/-- POLL (R69): one atomic pass over every channel, each computed from the state at the start of the step. -/
def execPoll (s : State) : Host.Outcome State Fault Refusal :=
  if s.life = .stopped then .next s.quiet
  else
    .next (({ s.writeDigital (s.pollDebounce.map Debounce.stable) (s.pollDebounce.map Debounce.count) with
      qPrev := s.pollDecode.map QStep.prev
      qSeeded := s.pollDecode.map QStep.seeded
      encoders := perChannel s.cfg.ne fun j => s.accumulate j (s.decodeStep j (s.pinCode j)).delta }.markDirty
        s.pollChg).out [] (bitWord s.pollChg))

/-- DSAMP c, r (R70). Checks in the order of 60_exceptions.md R92: range, then STOPPED gating. -/
def execDsamp (ch : Nibble) (r : Bool) (s : State) : Host.Outcome State Fault Refusal :=
  let c := ch.toNat
  let d := s.debounceStep c r
  let st := s.dbStable.set c d.stable
  if ¬ c < s.cfg.nch then .next s.badCmd
  else if s.life = .stopped then .next s.quiet
  else
    .next (((s.writeDigital st (s.dbCnt.set c d.count)).markDirty (s.digitalChg st)).out []
      (symbol (s.cfg.channel c) d.stable))

end Sys2Proof.Machine
end

