-- ==== Sys2Proof/Machine/Dispatch.lean ====
section
/-! DEFINITION. One arm per command of spec/opcode_table.json. -/

namespace Sys2Proof.Machine

def exec (i : Instr) (s : State) : Host.Outcome State Fault Refusal :=
  match i with
  | .nop => Sys2Proof.Machine.execNop s
  | .poll => Sys2Proof.Machine.execPoll s
  | .qdec ch a b => Sys2Proof.Machine.execQdec ch a b s
  | .dsamp ch r => Sys2Proof.Machine.execDsamp ch r s
  | .emit => Sys2Proof.Machine.execEmit s
  | .ctick => Sys2Proof.Machine.execCtick s
  | .start => Sys2Proof.Machine.execStart s
  | .stop => Sys2Proof.Machine.execStop s
  | .advertise => Sys2Proof.Machine.execAdvertise s
  | .linkUp => Sys2Proof.Machine.execLinkUp s
  | .linkDown => Sys2Proof.Machine.execLinkDown s
  | .clrstat => Sys2Proof.Machine.execClrstat s
  | .reservedC low => Sys2Proof.Machine.execReservedC low s
  | .reservedD low => Sys2Proof.Machine.execReservedD low s
  | .reservedE low => Sys2Proof.Machine.execReservedE low s
  | .reservedF low => Sys2Proof.Machine.execReservedF low s

end Sys2Proof.Machine
end

