-- ==== Sys2Proof/Machine/Command.lean ====
section
/-! DEFINITION. What a command word does, and the end of a step (00_scope.md R5, R12; 60_exceptions.md R92). -/

namespace Sys2Proof.Machine

/-- The command word's meaning: `exec` of the command it decodes to, BadCmd for a malformed word (30_encoding.md R49). -/
def runWord (w : Word) (s : State) : Host.Outcome State Fault Refusal :=
  match decode w with
  | .ok i => exec i s
  | .error _ => .next s.badCmd

/-- What an outcome becomes at the end of the step: the port sample is consumed. -/
def endStep : Host.Outcome State Fault Refusal → Host.Outcome State Fault Refusal
  | .next t => .next t.consumed
  | .fault r => .fault r
  | .refused r => .refused r

/-- The sample `p` with the command word `w`, its bits numbered as spec/opcode_table.json numbers them, and `rst` low. -/
def PortSample.withWord (p : PortSample) (nbits w : Nat) : PortSample :=
  { p with rst := false, cmd := BitVec.ofNat 16 (w % 2 ^ nbits) }

end Sys2Proof.Machine
end

