-- ==== Sys2Proof/Machine/Step.lean ====
section
/-! DEFINITION. One step of the block: the environment's command word, decoded and run. -/

namespace Sys2Proof.Machine

/-- One step (00_scope.md R12). No machine exists for an ill-formed configuration (R8). A step with `rst` high is the
reset of 70_reset_and_hazards.md R103 and runs no command (log entry 5). -/
def step (s : State) : Host.Outcome State Fault Refusal :=
  if s.cfg.wf then
    if s.ports.rst then endStep (.next s.powerOnReset) else endStep (runWord s.ports.cmd s)
  else .refused .illFormedConfig

/-- `s` with the command word `w` on the command port in the next step and `rst` low. The other ports of that step, and
everything the environment presents later, stay as they are (log entry 3). -/
def State.withFetchWord (s : State) (nbits w : Nat) : State :=
  { s with inputs := s.ports.withWord nbits w :: s.inputs.tail }

end Sys2Proof.Machine
end

