-- ==== Sys2Proof/Safety.lean ====
section
/-! DEFINITION. The terms claims are made in: the invariant of the states a run can reach, the duties of the environment,
runs of commands and of samples. -/

namespace Sys2Proof.Machine

/-! ## The invariant -/

/-- 10_state.md R22: `deadline` runs in ADVERTISING, from ADV_TIMEOUT_TICKS down to 1, and is 0 in every other state. -/
def State.DeadlineInv (s : State) : Prop :=
  (s.life = .advertising → 1 ≤ s.deadline.toNat ∧ s.deadline.toNat ≤ s.cfg.advTimeoutTicks) ∧
  (s.life ≠ .advertising → s.deadline = 0)

/-- Every list has one entry per channel or slot (10_state.md R14, column "count"). -/
structure State.Shape (s : State) : Prop where
  buttons : s.buttons.length = s.cfg.nb
  encoders : s.encoders.length = s.cfg.ne
  qPrev : s.qPrev.length = s.cfg.ne
  qSeeded : s.qSeeded.length = s.cfg.ne
  dbStable : s.dbStable.length = s.cfg.nch
  dbCnt : s.dbCnt.length = s.cfg.nch

/-- What holds of the block between any two steps. -/
structure State.Inv (s : State) : Prop where
  /-- 00_scope.md R8. -/
  config : s.cfg.wf = true
  shape : s.Shape
  /-- 41_debounce_sampler.md R65, R71 (c): a slot holds its code while its KEY channel is stably active, else 0. -/
  buttons : ∀ i < s.cfg.nb,
    s.button i = if (s.cfg.channel i).kind = .key ∧ s.stable i = true then (s.cfg.channel i).arg else 0
  /-- R71 (d). -/
  modifiers : s.modifiers = modMapping s.cfg s.dbStable
  /-- 10_state.md R17: the accumulator is an ENC_W-bit value. -/
  encoders : ∀ j < s.cfg.ne, s.encoder j = wrapEnc s.cfg.encW (s.encoder j).toInt
  /-- R18: "It stays (0, 0) when no AXIS channel is configured". -/
  axes : (∀ c < s.cfg.nch, (s.cfg.channel c).kind ≠ .axis) → s.axisX = 0 ∧ s.axisY = 0
  /-- R24: `db_cnt` is in 0..DEBOUNCE_K−1. -/
  counts : ∀ c < s.cfg.nch, (s.count c).toNat < s.cfg.debounceK
  /-- R22. -/
  deadline : s.DeadlineInv
  /-- 42_connection_lifecycle.md R80 (f). -/
  unseeded : s.life = .stopped → ∀ j < s.cfg.ne, s.seeded j = false

/-! ## Duties of the environment -/

/-- The merge order of one period's requests (60_exceptions.md R93). -/
def mergeOrder : List Instr :=
  [.linkDown, .linkUp, .poll, .emit, .ctick, .advertise, .start, .stop]

/-- The transport's duty of 70_reset_and_hazards.md R110 (a) on the command of the next step. DESIGN CHOICE (log entry 11,
unsafe): a link "that was reported up" ends with the CONNECTED state, so a LINK_DOWN after STOP is outside the duty. -/
def State.transportDuty (s : State) (i : Instr) : Prop :=
  (i = .linkUp → s.life = .advertising) ∧ (i = .linkDown → s.life = .connected)

/-! ## Runs -/

/-- The commands `is`, one per step, from `s`: the last state and the events of all the steps in order (R38, R99), if no
step stops. The port samples stand still, so a run of commands that read them uses one sample throughout. -/
def runCommands : List Instr → State → Option (State × List Event)
  | [], s => some (s, [])
  | i :: is, s =>
    match exec i s with
    | .next t => (runCommands is t).map fun r => (r.1, t.events ++ r.2)
    | .fault _ => none
    | .refused _ => none

/-- One encoder channel over a sequence of codes, from the record (`prev`, seeded): the last stored code and the sum of
the deltas (40_quadrature_decoder.md R55). -/
def decodeRun (mode : QdecMode) : Code → List Code → Code × Int
  | prev, [] => (prev, 0)
  | prev, code :: codes =>
    let q := qstep mode prev true code
    let r := decodeRun mode q.prev codes
    (r.1, q.delta + r.2)

/-- One digital channel over a sequence of levels (41_debounce_sampler.md R64). -/
def debounceRun (k : Nat) : Debounce → List Bool → Debounce
  | d, [] => d
  | d, lvl :: lvls => debounceRun k (dbstep k d.stable d.count lvl) lvls

/-- The next code of the forward cycle 00→01→11→10→00 (40_quadrature_decoder.md R56). -/
def graySucc (c : Code) : Code := packCode (c.getLsbD 0) (!c.getLsbD 1)

/-- Two codes that differ in exactly one bit (00_scope.md R13). -/
def grayAdjacent (p c : Code) : Prop := c = graySucc p ∨ p = graySucc c

/-- The place of a code on the forward cycle: 00, 01, 11, 10 are 0, 1, 2, 3. -/
def grayIndex (c : Code) : Int := if c = 0b00 then 0 else if c = 0b01 then 1 else if c = 0b11 then 2 else 3

end Sys2Proof.Machine
end

