-- ==== Sys2Proof/Certificates/Slice0/Obligations.lean ====
section
/-! DEFINITION. The statements for the provers, from the numbered rules of spec/. A premise `s.Inv`, `s.Shape` or
`s.DeadlineInv` rules out states no run reaches; that every step keeps these is stated below. -/

open Sys2Proof Sys2Proof.Machine

/-! ## Encoding (30_encoding.md) -/

/-- R44, R45, R47: no bit of an encoding is dropped, for every command and every operand value. -/
def Obligations.DecodeInvertsEncode : Prop := ∀ i : Instr, decode (encode i) = .ok i

/-- R44 to R47: each command has one word, so a decoded word is the encoding of what it decodes to. -/
def Obligations.DecodedWordIsTheEncoding : Prop := ∀ (w : Word) (i : Instr), decode w = .ok i → encode i = w

/-- R47: a word decodes to a row's command exactly when the row selects it; at most one row does; and (R48) a word is
malformed exactly when no row does. -/
def Obligations.OpcodeRowsSelectWords : Prop :=
  (∀ w : Word, ∀ r ∈ opcodeMap, (r.selects w = true ↔ ∃ i, decode w = .ok i ∧ i.mnemonic = r.mnemonic)) ∧
  (∀ w : Word, ∀ r ∈ opcodeMap, ∀ r' ∈ opcodeMap, r.selects w = true → r'.selects w = true → r = r') ∧
  (∀ w : Word, ((∃ m, decode w = .error m) ↔ ∀ r ∈ opcodeMap, r.selects w = false))

/-- 95_test_vectors.md E-1 to E-16: words written out from the encodings. -/
def Obligations.SpecWordsDecode : Prop :=
  decode 0b0000000000000000 = .ok .nop ∧ decode 0b0001000000000000 = .ok .poll ∧
  decode 0b0010000100000011 = .ok (.qdec 1 true true) ∧ decode 0b0010111100000001 = .ok (.qdec 15 false true) ∧
  decode 0b0011010100000001 = .ok (.dsamp 5 true) ∧ decode 0b0100000000000000 = .ok .emit ∧
  decode 0b0110000000000000 = .ok .start ∧ decode 0b1101000100100011 = .ok (.reservedD 0x123) ∧
  decode 0x0001 = .error .dataNotZero ∧ decode 0x1100 = .error .channelNotZero ∧
  decode 0x2104 = .error .dataNotZero ∧ decode 0x3502 = .error .dataNotZero

/-- R52: the words of the assembler's operand forms. -/
def Obligations.AssembledOperandWords : Prop :=
  (∀ (ch : Nibble) (a b : Bool),
    (encode (.qdec ch a b)).toNat = 0x2000 + ch.toNat * 2 ^ 8 + a.toNat * 2 + b.toNat) ∧
  (∀ (ch : Nibble) (r : Bool), (encode (.dsamp ch r)).toNat = 0x3000 + ch.toNat * 2 ^ 8 + r.toNat)

/-! ## Steps, errors and reset -/

/-- R12, R92: a step on a word that decodes runs that command and consumes the port sample. -/
def Obligations.StepRunsDecodedCommand : Prop :=
  ∀ (s : State) (i : Instr), s.cfg.wf = true → s.ports.rst = false → decode s.ports.cmd = .ok i →
    step s = endStep (exec i s) ∧
    ∀ t, exec i s = .next t → step s = .next { t with inputs := s.inputs.tail, time := s.time + 1 }

/-- The model's interface (log entry 3): a word put on the command port is the command the very next step runs. -/
def Obligations.FetchedWordRunsNext : Prop :=
  ∀ (s : State) (w : Word) (i : Instr), s.cfg.wf = true → decode w = .ok i →
    step (s.withFetchWord 16 w.toNat) = endStep (exec i (s.withFetchWord 16 w.toNat)) ∧
    decodeTableWord 16 w.toNat = some i

/-- R49: a reserved, a malformed and an out-of-range word set BADCMD and do nothing else, in every `life`. -/
def Obligations.BadWordOnlySetsBadcmd : Prop :=
  ∀ s : State, s.cfg.wf = true → s.ports.rst = false →
    (12 ≤ s.ports.cmd.toNat / 2 ^ 12 ∨
     (∀ r ∈ opcodeMap, r.selects s.ports.cmd = false) ∨
     (∃ ch a b, s.ports.cmd = encode (.qdec ch a b) ∧ s.cfg.ne ≤ ch.toNat) ∨
     (∃ ch r, s.ports.cmd = encode (.dsamp ch r) ∧ s.cfg.nch ≤ ch.toNat)) →
    step s = .next { s with
      statusBadcmd := true, events := [], resp := 0, inputs := s.inputs.tail, time := s.time + 1 }

/-- R49, R50: the four reserved operation codes, whatever their other 12 bits, and R48: a channel out of range, in every
`life`. -/
def Obligations.ReservedAndOutOfRangeCommands : Prop :=
  ∀ s : State,
    (∀ low, exec (.reservedC low) s = .next { s with statusBadcmd := true, events := [], resp := 0 }) ∧
    (∀ low, exec (.reservedD low) s = .next { s with statusBadcmd := true, events := [], resp := 0 }) ∧
    (∀ low, exec (.reservedE low) s = .next { s with statusBadcmd := true, events := [], resp := 0 }) ∧
    (∀ low, exec (.reservedF low) s = .next { s with statusBadcmd := true, events := [], resp := 0 }) ∧
    (∀ ch a b, s.cfg.ne ≤ ch.toNat →
      exec (.qdec ch a b) s = .next { s with statusBadcmd := true, events := [], resp := 0 }) ∧
    (∀ ch r, s.cfg.nch ≤ ch.toNat →
      exec (.dsamp ch r) s = .next { s with statusBadcmd := true, events := [], resp := 0 })

/-- R95: a sticky bit, once set, stays set until CLRSTAT or reset. -/
def Obligations.StickyBitsStay : Prop :=
  ∀ s t : State, step s = .next t → s.ports.rst = false → s.ports.cmd ≠ 0xB000 →
    (s.statusBadcmd = true → t.statusBadcmd = true) ∧ (s.statusIgn = true → t.statusIgn = true)

/-- R90: START, ADVERTISE, LINK_UP and LINK_DOWN in the wrong `life` set IGN and do nothing else, and no other step sets
IGN. -/
def Obligations.IgnoredCommands : Prop :=
  ∀ s : State, s.cfg.wf = true → s.ports.rst = false →
    let ignoredHere :=
      (s.ports.cmd = 0x6000 ∧ s.life ≠ .stopped) ∨ (s.ports.cmd = 0x8000 ∧ s.life ≠ .idle) ∨
      (s.ports.cmd = 0x9000 ∧ s.life ≠ .advertising) ∨ (s.ports.cmd = 0xA000 ∧ s.life ≠ .connected)
    (ignoredHere → step s = .next { s with
      statusIgn := true, events := [], resp := 0, inputs := s.inputs.tail, time := s.time + 1 }) ∧
    (∀ t, step s = .next t → s.statusIgn = false → t.statusIgn = true → ignoredHere)

/-- R92: "A command therefore reports at most one of BADCMD or IGN". -/
def Obligations.OneErrorPerCommand : Prop :=
  ∀ s t : State, step s = .next t → ¬ (s.statusBadcmd = false ∧ t.statusBadcmd = true ∧
    s.statusIgn = false ∧ t.statusIgn = true)

/-- 70_reset_and_hazards.md R110 (a), as log entry 11 reads it: a LINK_UP in ADVERTISING and a LINK_DOWN in CONNECTED are
never ignored. -/
def Obligations.DutifulNotificationsAreTracked : Prop :=
  ∀ s : State, (s.transportDuty .linkUp → ∃ t, exec .linkUp s = .next t ∧ t.life ≠ s.life ∧ t.statusIgn = s.statusIgn) ∧
    (s.transportDuty .linkDown → ∃ t, exec .linkDown s = .next t ∧ t.life ≠ s.life ∧ t.statusIgn = s.statusIgn)

/-- R88: no step faults, and with a well-formed configuration none is refused: the block never halts. -/
def Obligations.BlockNeverHalts : Prop := ∀ s : State, s.cfg.wf = true → ∃ t, step s = .next t

/-- R8, each check written out: a configuration that fails one has no machine, and only such a one. -/
def Obligations.OnlyIllFormedConfigsAreRefused : Prop :=
  ∀ s : State, (step s = .refused .illFormedConfig ↔ ¬ (
    (1 ≤ s.cfg.nb ∧ s.cfg.nb ≤ 6 ∧ 1 ≤ s.cfg.nch ∧ s.cfg.nch ≤ 16 ∧ 1 ≤ s.cfg.ne ∧ s.cfg.ne ≤ 16) ∧
    (∀ c < s.cfg.nch, (s.cfg.channel c).kind = .key → c < s.cfg.nb ∧ (s.cfg.channel c).arg ≠ 0) ∧
    (∀ c < s.cfg.nch, (s.cfg.channel c).kind = .mod → (s.cfg.channel c).arg.toNat < 2 ^ 3) ∧
    (∀ c < s.cfg.nch, (s.cfg.channel c).kind = .axis → (s.cfg.channel c).arg.toNat < 2 ^ 2) ∧
    (1 ≤ s.cfg.debounceK ∧ s.cfg.debounceK ≤ 15) ∧
    (1 ≤ s.cfg.advTimeoutTicks ∧ s.cfg.advTimeoutTicks ≤ 65535) ∧
    (8 ≤ s.cfg.encW ∧ s.cfg.encW ≤ 16) ∧
    (1 ≤ s.cfg.axisStep ∧ s.cfg.axisStep ≤ 127)))

/-- R103: a step with `rst` high gives every field its reset value, in any state, and emits nothing. -/
def Obligations.ResetStepSetsEveryField : Prop :=
  ∀ s : State, s.cfg.wf = true → s.ports.rst = true → ∃ t, step s = .next t ∧ t.cfg = s.cfg ∧ t.Shape ∧
    (∀ i, t.button i = 0) ∧ t.modifiers = 0 ∧ (∀ j, t.encoder j = 0) ∧ t.axisX = 0 ∧ t.axisY = 0 ∧
    t.dirty = false ∧ t.life = .stopped ∧ t.deadline = 0 ∧
    (∀ j, t.prevCode j = 0 ∧ t.seeded j = false) ∧ (∀ c, t.stable c = false ∧ t.count c = 0) ∧
    t.statusBadcmd = false ∧ t.statusIgn = false ∧ t.events = []

/-- R103 and R6: the state after reset with the default parameters, its lists written out. -/
def Obligations.ResetStateOfTheDefaults : Prop :=
  State.reset.buttons = [0, 0, 0, 0, 0, 0] ∧ State.reset.modifiers = 0 ∧ State.reset.encoders = [0, 0] ∧
  State.reset.axisX = 0 ∧ State.reset.axisY = 0 ∧ State.reset.dirty = false ∧ State.reset.life = .stopped ∧
  State.reset.deadline = 0 ∧ State.reset.qPrev = [0, 0] ∧ State.reset.qSeeded = [false, false] ∧
  State.reset.dbStable = [false, false, false, false, false, false] ∧ State.reset.dbCnt = [0, 0, 0, 0, 0, 0] ∧
  State.reset.statusBadcmd = false ∧ State.reset.statusIgn = false ∧ State.reset.cfg.advTimeoutTicks = 600 ∧
  (∀ c < 6, State.reset.cfg.channel c = { kind := .key, arg := BitVec.ofNat 8 (4 + c), pol := .activeLow })

/-- R6, R26: no step changes a parameter. -/
def Obligations.ParametersNeverChange : Prop := ∀ s t : State, step s = .next t → t.cfg = s.cfg

/-! ## Invariants -/

/-- The invariant of the block (10_state.md R14, R17, R18, R22, R24; 41_debounce_sampler.md R71 (c) and (d);
42_connection_lifecycle.md R80 (f)) is kept by every step, whatever the environment presents. -/
def Obligations.EveryStepKeepsTheInvariant : Prop := ∀ s t : State, s.Inv → step s = .next t → t.Inv

/-- The invariant holds after reset, for every well-formed configuration and for the defaults. -/
def Obligations.ResetMeetsTheInvariant : Prop :=
  (∀ cfg : Config, cfg.wf = true → (State.resetFor cfg).Inv) ∧ State.reset.Inv

/-- R22 alone: it holds at reset and is kept by every step. -/
def Obligations.DeadlineRunsOnlyWhileAdvertising : Prop :=
  State.reset.DeadlineInv ∧ ∀ s t : State, s.DeadlineInv → step s = .next t → t.DeadlineInv

/-- R14 (column "written by"), R29: a step changes a field only if its command is one of the field's writers; a malformed
word writes `status.BADCMD` alone. -/
def Obligations.FieldsHaveOnlyTheirWriters : Prop :=
  ∀ s t : State, step s = .next t → s.ports.rst = false →
    let by_ := fun ms : List String => ∃ i, decode s.ports.cmd = .ok i ∧ i.mnemonic ∈ ms
    (t.buttons ≠ s.buttons → by_ ["POLL", "DSAMP"]) ∧
    (t.modifiers ≠ s.modifiers → by_ ["POLL", "DSAMP"]) ∧
    (t.encoders ≠ s.encoders → by_ ["POLL", "QDEC"]) ∧
    (t.axisX ≠ s.axisX ∨ t.axisY ≠ s.axisY → by_ ["POLL", "DSAMP", "EMIT"]) ∧
    (t.dirty ≠ s.dirty → by_ ["POLL", "DSAMP", "QDEC", "EMIT"]) ∧
    (t.life ≠ s.life → by_ ["START", "STOP", "ADVERTISE", "LINK_UP", "LINK_DOWN", "CTICK", "EMIT"]) ∧
    (t.deadline ≠ s.deadline → by_ ["ADVERTISE", "EMIT", "LINK_UP", "CTICK", "STOP"]) ∧
    (t.qPrev ≠ s.qPrev → by_ ["POLL", "QDEC"]) ∧
    (t.qSeeded ≠ s.qSeeded → by_ ["POLL", "QDEC", "STOP"]) ∧
    (t.dbStable ≠ s.dbStable ∨ t.dbCnt ≠ s.dbCnt → by_ ["POLL", "DSAMP"]) ∧
    (t.statusBadcmd ≠ s.statusBadcmd →
      (∃ m, decode s.ports.cmd = .error m) ∨
      by_ ["QDEC", "DSAMP", "RESERVED_C", "RESERVED_D", "RESERVED_E", "RESERVED_F", "CLRSTAT"]) ∧
    (t.statusIgn ≠ s.statusIgn → by_ ["START", "ADVERTISE", "LINK_UP", "LINK_DOWN", "CLRSTAT"])

/-- 92_eei_decisions.md D19, 60_exceptions.md R102, 42_connection_lifecycle.md R80 (e): in STOPPED every command but START
leaves all but the two status bits as they are and emits nothing. -/
def Obligations.StoppedBlockStandsStill : Prop :=
  ∀ s t : State, step s = .next t → s.ports.rst = false → s.life = .stopped → s.ports.cmd ≠ 0x6000 →
    t = { s with statusBadcmd := t.statusBadcmd, statusIgn := t.statusIgn, events := [], resp := 0,
                 inputs := s.inputs.tail, time := s.time + 1 }

/-- R99: the events of one step. -/
def Obligations.EventsOfOneStep : Prop :=
  ∀ s t : State, step s = .next t →
    t.events.length ≤ 1 ∨
    (s.life = .advertising ∧ s.ports.cmd = 0x7000 ∧ t.events = [.tAdvStop, .tStop])

/-- R12: `raw_dig`, `enc_a` and `enc_b` are read only by POLL, and only the bits of the channels there are; `send_ok` only
by EMIT, and only where it sends. What is not read has no influence. -/
def Obligations.PortsReachOnlyTheirCommands : Prop :=
  ∀ (i : Instr) (s t : State) (ins : List PortSample) (n : Nat), exec i s = .next t →
    let s' := { s with inputs := ins, time := n }
    (i = .poll → (∀ c < s.cfg.nch, s'.rawPin c = s.rawPin c) ∧ ∀ j < s.cfg.ne, s'.pinCode j = s.pinCode j) →
    (i = .emit → s.life = .connected → s.dirty = true → s'.ports.sendOk = s.ports.sendOk) →
    exec i s' = .next { t with inputs := ins, time := n }

/-! ## Quadrature decoder (40_quadrature_decoder.md) -/

/-- R60 with R55: QDEC in range outside STOPPED completes; channel `j` stores the code, is seeded and accumulates the
delta; every other channel keeps its record; the response is the delta; nothing else changes. -/
def Obligations.QdecDecodesOneSample : Prop :=
  ∀ (s : State) (ch : Nibble) (a b : Bool), s.Shape → ch.toNat < s.cfg.ne → s.life ≠ .stopped →
    let j := ch.toNat
    let code := packCode a b
    let d : Int := if s.seeded j = false ∨ code = s.prevCode j then 0
      else transition s.cfg.qdecMode (s.prevCode j) code
    ∃ t, exec (.qdec ch a b) s = .next t ∧
      t.prevCode j = code ∧ t.seeded j = true ∧ t.encoder j = wrapEnc s.cfg.encW ((s.encoder j).toInt + d) ∧
      (∀ k, k ≠ j → t.prevCode k = s.prevCode k ∧ t.seeded k = s.seeded k ∧ t.encoder k = s.encoder k) ∧
      t.Shape ∧ t.dirty = (s.dirty || d != 0) ∧ t.resp = BitVec.ofInt 16 d ∧ t.events = [] ∧
      t = { s with qPrev := t.qPrev, qSeeded := t.qSeeded, encoders := t.encoders, dirty := t.dirty,
                   events := t.events, resp := t.resp }

/-- R55: the first sample of a channel, and a repeated one, give delta 0: the accumulator and `dirty` stay. -/
def Obligations.SeedAndRepeatGiveNoDelta : Prop :=
  ∀ (s : State) (ch : Nibble) (a b : Bool), s.Inv → ch.toNat < s.cfg.ne → s.life ≠ .stopped →
    (s.seeded ch.toNat = false ∨ s.prevCode ch.toNat = packCode a b) →
    exec (.qdec ch a b) s = .next { s with
      qPrev := s.qPrev.set ch.toNat (packCode a b), qSeeded := s.qSeeded.set ch.toNat true, events := [], resp := 0 }

/-- R56: in GRAY mode the forward cycle 00→01→11→10→00 gives +1 per transition, the reverse cycle −1, and a jump between
non-adjacent codes 0; each stores the new code. -/
def Obligations.GrayTransitions : Prop :=
  ∀ (s : State) (ch : Nibble) (a b : Bool), s.Shape → ch.toNat < s.cfg.ne → s.life ≠ .stopped →
    s.cfg.qdecMode = .gray → s.seeded ch.toNat = true → s.prevCode ch.toNat ≠ packCode a b →
    ∃ t, exec (.qdec ch a b) s = .next t ∧ t.prevCode ch.toNat = packCode a b ∧
      (packCode a b = graySucc (s.prevCode ch.toNat) → t.resp = 0x0001 ∧
        t.encoder ch.toNat = wrapEnc s.cfg.encW ((s.encoder ch.toNat).toInt + 1)) ∧
      (s.prevCode ch.toNat = graySucc (packCode a b) → t.resp = 0xFFFF ∧
        t.encoder ch.toNat = wrapEnc s.cfg.encW ((s.encoder ch.toNat).toInt - 1)) ∧
      (¬ grayAdjacent (s.prevCode ch.toNat) (packCode a b) → t.resp = 0x0000 ∧ t.dirty = s.dirty ∧
        t.encoder ch.toNat = wrapEnc s.cfg.encW (s.encoder ch.toNat).toInt)

/-- R57: in SOURCE_01_10 mode a change to code 01 gives +1, to code 10 −1, and any other change 0. -/
def Obligations.SourceModeTransitions : Prop :=
  ∀ (s : State) (ch : Nibble) (a b : Bool), s.Shape → ch.toNat < s.cfg.ne → s.life ≠ .stopped →
    s.cfg.qdecMode = .source0110 → s.seeded ch.toNat = true → s.prevCode ch.toNat ≠ packCode a b →
    ∃ t, exec (.qdec ch a b) s = .next t ∧ t.prevCode ch.toNat = packCode a b ∧
      (a = false ∧ b = true → t.resp = 0x0001 ∧
        t.encoder ch.toNat = wrapEnc s.cfg.encW ((s.encoder ch.toNat).toInt + 1)) ∧
      (a = true ∧ b = false → t.resp = 0xFFFF ∧
        t.encoder ch.toNat = wrapEnc s.cfg.encW ((s.encoder ch.toNat).toInt - 1)) ∧
      (a = b → t.resp = 0x0000 ∧ t.dirty = s.dirty ∧
        t.encoder ch.toNat = wrapEnc s.cfg.encW (s.encoder ch.toNat).toInt)

/-- R58: adding a delta in −1, 0, +1 to an ENC_W-bit accumulator gives the sum, or wraps at the two ends of the range. -/
def Obligations.AccumulatorWrapsAtItsWidth : Prop :=
  ∀ (s : State) (j : Nat) (d : Int), s.Inv → j < s.cfg.ne → -1 ≤ d → d ≤ 1 →
    let half : Int := 2 ^ (s.cfg.encW - 1)
    let n := (s.encoder j).toInt
    n < half ∧ -half ≤ n ∧
    (s.accumulate j d).toInt = if n + d = half then -half else if n + d = -half - 1 then half - 1 else n + d

/-- R61 (a), for POLL and QDEC alike: in GRAY mode an accumulator moves only on a seeded channel whose code went to a
Gray-adjacent one. -/
def Obligations.OnlyAdjacentCodesCount : Prop :=
  ∀ (s t : State) (j : Nat), s.Inv → s.cfg.qdecMode = .gray → step s = .next t → s.ports.rst = false →
    t.encoder j ≠ s.encoder j →
    s.seeded j = true ∧ grayAdjacent (s.prevCode j) (t.prevCode j)

/-- R61 (b) and its last sentence: from any seeded code, `k` full forward cycles add 4k and reverse ones −4k in GRAY mode,
and a full cycle either way adds 0 in SOURCE_01_10 mode; the channel ends on the code it began with. -/
def Obligations.FullCyclesCount : Prop :=
  ∀ (p : Code) (k : Nat),
    let p1 := graySucc p
    let p2 := graySucc p1
    let p3 := graySucc p2
    decodeRun .gray p (List.replicate k [p1, p2, p3, p]).flatten = (p, 4 * (k : Int)) ∧
    decodeRun .gray p (List.replicate k [p3, p2, p1, p]).flatten = (p, -(4 * (k : Int))) ∧
    decodeRun .source0110 p (List.replicate k [p1, p2, p3, p]).flatten = (p, 0) ∧
    decodeRun .source0110 p (List.replicate k [p3, p2, p1, p]).flatten = (p, 0)

/-- From R55 and R56 (70_reset_and_hazards.md R107's assumption): over samples that miss no transition, the count in GRAY
mode is the position on the cycle modulo 4, and `q_prev` is the last code presented (R61 (d)). -/
def Obligations.FullySampledCountTracksPosition : Prop :=
  ∀ (p : Code) (codes : List Code), List.IsChain (fun c c' => c' = c ∨ grayAdjacent c c') (p :: codes) →
    (decodeRun .gray p codes).1 = (p :: codes).getLast (by simp) ∧
    ((decodeRun .gray p codes).2 - (grayIndex (decodeRun .gray p codes).1 - grayIndex p)) % 4 = 0

/-! ## Debounce sampler (41_debounce_sampler.md) -/

/-- R64: a sample at the stable level resets the count; the K-th consecutive sample at the other level is accepted, and
none before it; the count stays below K. -/
def Obligations.KthConsecutiveSampleIsAccepted : Prop :=
  ∀ (k : Nat) (st : Bool), 1 ≤ k → k ≤ 15 →
    (∀ cnt, dbstep k st cnt st = { stable := st, count := 0 }) ∧
    (∀ n < k, debounceRun k { stable := st, count := 0 } (List.replicate n !st) =
      { stable := st, count := BitVec.ofNat 4 n }) ∧
    debounceRun k { stable := st, count := 0 } (List.replicate k !st) = { stable := !st, count := 0 } ∧
    (∀ (cnt : Nibble) (lvl : Bool), cnt.toNat < k → (dbstep k st cnt lvl).count.toNat < k)

/-- R71 (e): a level sequence with no K consecutive samples at the other level never changes the stable level. -/
def Obligations.ShortBounceIsFiltered : Prop :=
  ∀ (k : Nat) (st : Bool) (lvls : List Bool), 1 ≤ k → k ≤ 15 → ¬ List.replicate k (!st) <:+: lvls →
    (debounceRun k { stable := st, count := 0 } lvls).stable = st

/-- R69 with R63 to R67: POLL outside STOPPED completes; every channel's record, every slot, each modifier bit and both
axes are what the rules give, and nothing else changes. -/
def Obligations.PollSamplesEveryChannel : Prop :=
  ∀ s : State, s.life ≠ .stopped → ∃ t, exec .poll s = .next t ∧ t.Shape ∧
    (∀ c < s.cfg.nch,
      let lvl := if (s.cfg.channel c).pol = .activeHigh then s.rawPin c else !(s.rawPin c)
      let d := dbstep s.cfg.debounceK (s.stable c) (s.count c) lvl
      t.stable c = d.stable ∧ t.count c = d.count) ∧
    (∀ j < s.cfg.ne,
      let q := qstep s.cfg.qdecMode (s.prevCode j) (s.seeded j) (s.pinCode j)
      t.prevCode j = q.prev ∧ t.seeded j = q.seeded ∧
      t.encoder j = wrapEnc s.cfg.encW ((s.encoder j).toInt + q.delta)) ∧
    (∀ i < s.cfg.nb, t.button i =
      if (s.cfg.channel i).kind = .key then (if t.stable i then (s.cfg.channel i).arg else 0) else s.button i) ∧
    (∀ b < 8, (t.modifiers.getLsbD b = true ↔ ∃ c < s.cfg.nch,
      (s.cfg.channel c).kind = .mod ∧ (s.cfg.channel c).arg.toNat % 8 = b ∧ t.stable c = true)) ∧
    t.axisX.toInt = max (-128) (min 127 (s.axisX.toInt + axisSum s.cfg .x s.dbStable t.dbStable)) ∧
    t.axisY.toInt = max (-128) (min 127 (s.axisY.toInt + axisSum s.cfg .y s.dbStable t.dbStable)) ∧
    t = { s with dbStable := t.dbStable, dbCnt := t.dbCnt, qPrev := t.qPrev, qSeeded := t.qSeeded,
                 encoders := t.encoders, buttons := t.buttons, modifiers := t.modifiers, axisX := t.axisX,
                 axisY := t.axisY, dirty := t.dirty, events := [], resp := t.resp }

/-- R67: an AXIS channel contributes AXIS_STEP with its sign to its axis exactly on a rising stable edge, and the sum of
an axis is over all channels of the configuration. -/
def Obligations.AxisContributesOnPressOnly : Prop :=
  ∀ (cfg : Config) (axis : Axis) (st0 st1 : List Bool),
    axisSum cfg axis st0 st1 = ∑ c ∈ Finset.range cfg.nch,
      (if (cfg.channel c).kind = .axis ∧ ((cfg.channel c).arg.getLsbD 0 = true ↔ axis = .y) ∧
          st0.getD c false = false ∧ st1.getD c false = true
       then (if (cfg.channel c).arg.getLsbD 1 = true then -(cfg.axisStep : Int) else (cfg.axisStep : Int)) else 0)

/-- R68 for POLL: the response is 1, and `dirty` is set, exactly when a button or the modifiers changed, an axis sum is
not 0, or a delta is not 0. -/
def Obligations.PollReportsChange : Prop :=
  ∀ s t : State, s.life ≠ .stopped → exec .poll s = .next t →
    let chg := t.buttons ≠ s.buttons ∨ t.modifiers ≠ s.modifiers ∨
      axisSum s.cfg .x s.dbStable t.dbStable ≠ 0 ∨ axisSum s.cfg .y s.dbStable t.dbStable ≠ 0 ∨
      ∃ j < s.cfg.ne, (qstep s.cfg.qdecMode (s.prevCode j) (s.seeded j) (s.pinCode j)).delta ≠ 0
    (chg → t.dirty = true ∧ t.resp = 1) ∧ (¬ chg → t.dirty = s.dirty ∧ t.resp = 0)

/-- R71 (a): a POLL of unchanged levels and codes leaves `dirty` and the whole InputState unchanged and only resets the
counts. -/
def Obligations.PollOfUnchangedInputs : Prop :=
  ∀ s : State, s.Inv → s.life ≠ .stopped →
    (∀ c < s.cfg.nch, level (s.cfg.channel c).pol (s.rawPin c) = s.stable c) →
    (∀ j < s.cfg.ne, s.seeded j = true ∧ s.pinCode j = s.prevCode j) →
    exec .poll s = .next { s with dbCnt := List.replicate s.cfg.nch 0, events := [], resp := 0 }

/-- R70: DSAMP in range outside STOPPED completes; channel `c`'s record takes its debounce step; only the slot, the bit or
the axis mapped from `c` can change; the response is the stable symbol; nothing else changes. -/
def Obligations.DsampSamplesOneChannel : Prop :=
  ∀ (s : State) (ch : Nibble) (r : Bool), s.Inv → ch.toNat < s.cfg.nch → s.life ≠ .stopped →
    let c := ch.toNat
    let cc := s.cfg.channel c
    let d := dbstep s.cfg.debounceK (s.stable c) (s.count c) (if cc.pol = .activeHigh then r else !r)
    let press := cc.kind = .axis ∧ s.stable c = false ∧ d.stable = true
    let v : Int := if cc.arg.getLsbD 1 = true then -(s.cfg.axisStep : Int) else (s.cfg.axisStep : Int)
    ∃ t, exec (.dsamp ch r) s = .next t ∧ t.Shape ∧
      t.stable c = d.stable ∧ t.count c = d.count ∧
      (∀ k, k ≠ c → t.stable k = s.stable k ∧ t.count k = s.count k ∧ t.button k = s.button k) ∧
      (c < s.cfg.nb → cc.kind = .key → t.button c = if d.stable then cc.arg else 0) ∧
      (cc.kind ≠ .key → t.buttons = s.buttons) ∧
      (∀ b < 8, (t.modifiers.getLsbD b = true ↔ ∃ k < s.cfg.nch,
        (s.cfg.channel k).kind = .mod ∧ (s.cfg.channel k).arg.toNat % 8 = b ∧ t.stable k = true)) ∧
      (cc.kind ≠ .mod → t.modifiers = s.modifiers) ∧
      t.axisX.toInt = max (-128) (min 127 (s.axisX.toInt + if press ∧ cc.arg.getLsbD 0 = false then v else 0)) ∧
      t.axisY.toInt = max (-128) (min 127 (s.axisY.toInt + if press ∧ cc.arg.getLsbD 0 = true then v else 0)) ∧
      (t.dirty = true ↔ s.dirty = true ∨ t.buttons ≠ s.buttons ∨ t.modifiers ≠ s.modifiers ∨ press) ∧
      t.resp = (match cc.kind with
        | .key => if d.stable then BitVec.ofNat 16 cc.arg.toNat else 0
        | .mod => if d.stable then BitVec.ofNat 16 (2 ^ (cc.arg.toNat % 8)) else 0
        | .axis => if d.stable then (if cc.arg.getLsbD 1 = true then 0xFFFF else 0x0001) else 0
        | .none => if d.stable then 0x0001 else 0x0000) ∧
      t = { s with dbStable := t.dbStable, dbCnt := t.dbCnt, buttons := t.buttons, modifiers := t.modifiers,
                   axisX := t.axisX, axisY := t.axisY, dirty := t.dirty, events := [], resp := t.resp }

/-- 41_debounce_sampler.md R65, 95_test_vectors.md Scenario E: samples of two channels in either order leave the same
records, slots and modifiers, and of two KEY channels the same `dirty` and axes too. -/
def Obligations.SampleOrderOfTwoChannels : Prop :=
  ∀ (s : State) (c c' : Nibble) (r r' : Bool), s.Inv → c ≠ c' → c.toNat < s.cfg.nch → c'.toNat < s.cfg.nch →
    ∃ u v ev ev', runCommands [.dsamp c r, .dsamp c' r'] s = some (u, ev) ∧
      runCommands [.dsamp c' r', .dsamp c r] s = some (v, ev') ∧
      u = { v with axisX := u.axisX, axisY := u.axisY, dirty := u.dirty, resp := u.resp } ∧
      ((s.cfg.channel c.toNat).kind = .key → (s.cfg.channel c'.toNat).kind = .key → u = { v with resp := u.resp })

/-- The STOPPED gating of R60, R69, R70, R79 and R83 (60_exceptions.md R92, check 4): no state change, no event, response
0. -/
def Obligations.DutiesRestInStopped : Prop :=
  ∀ s : State, s.life = .stopped →
    exec .poll s = .next { s with events := [], resp := 0 } ∧
    exec .emit s = .next { s with events := [], resp := 0 } ∧
    exec .ctick s = .next { s with events := [], resp := 0 } ∧
    (∀ ch a b, ch.toNat < s.cfg.ne → exec (.qdec ch a b) s = .next { s with events := [], resp := 0 }) ∧
    (∀ ch r, ch.toNat < s.cfg.nch → exec (.dsamp ch r) s = .next { s with events := [], resp := 0 })

/-! ## Connection lifecycle (42_connection_lifecycle.md) -/

/-- R74 to R79, the cells of R72 but for EMIT's: the words of START, STOP, ADVERTISE, LINK_UP, LINK_DOWN and CTICK; the new
`life`, the events in order, the other writes, and nothing else; every cell completes with response 0. -/
def Obligations.LifecycleMatrix : Prop :=
  (encode .start = 0x6000 ∧ encode .stop = 0x7000 ∧ encode .advertise = 0x8000 ∧ encode .linkUp = 0x9000 ∧
    encode .linkDown = 0xA000 ∧ encode .ctick = 0x5000) ∧
  ∀ s : State, s.DeadlineInv →
    let ign := { s with statusIgn := true, events := [], resp := 0 }
    let same := { s with events := [], resp := 0 }
    let off := { s with life := .stopped, qSeeded := List.replicate s.cfg.ne false, resp := 0 }
    exec .start s = .next (match s.life with
      | .stopped => { s with life := .idle, events := [.tStart], resp := 0 }
      | .idle | .advertising | .connected => ign) ∧
    exec .stop s = .next (match s.life with
      | .stopped => same
      | .idle | .connected => { off with events := [.tStop] }
      | .advertising => { off with deadline := 0, events := [.tAdvStop, .tStop] }) ∧
    exec .advertise s = .next (match s.life with
      | .idle => { s with life := .advertising, deadline := BitVec.ofNat 16 s.cfg.advTimeoutTicks,
                          events := [.tAdvStart], resp := 0 }
      | .stopped | .advertising | .connected => ign) ∧
    exec .linkUp s = .next (match s.life with
      | .advertising => { s with life := .connected, deadline := 0, events := [], resp := 0 }
      | .stopped | .idle | .connected => ign) ∧
    exec .linkDown s = .next (match s.life with
      | .connected => { s with life := .idle, events := [], resp := 0 }
      | .stopped | .idle | .advertising => ign) ∧
    exec .ctick s = .next (match s.life with
      | .advertising =>
        if s.deadline.toNat = 1 then { s with life := .idle, deadline := 0, events := [.tAdvStop], resp := 0 }
        else { s with deadline := BitVec.ofNat 16 (s.deadline.toNat - 1), events := [], resp := 0 }
      | .stopped | .idle | .connected => same)

/-- R80 (a) to (e), and R72 for IDLE: the only ways out of each of the four states, and so the only ways into each, in any
step with `rst` low. -/
def Obligations.LifecycleEntriesAndExits : Prop :=
  ∀ s t : State, s.DeadlineInv → step s = .next t → s.ports.rst = false →
    (s.life ≠ .advertising → t.life = .advertising →
      s.life = .idle ∧ (s.ports.cmd = 0x8000 ∨ (s.ports.cmd = 0x4000 ∧ s.dirty = true)) ∧
      t.events = [.tAdvStart] ∧ t.deadline = BitVec.ofNat 16 s.cfg.advTimeoutTicks) ∧
    (s.life = .idle → t.life ≠ .idle →
      ((s.ports.cmd = 0x8000 ∨ (s.ports.cmd = 0x4000 ∧ s.dirty = true)) ∧ t.life = .advertising) ∨
      (s.ports.cmd = 0x7000 ∧ t.life = .stopped)) ∧
    (s.life = .advertising → t.life ≠ .advertising →
      (s.ports.cmd = 0x5000 ∧ s.deadline = 1 ∧ t.life = .idle) ∨
      (s.ports.cmd = 0x9000 ∧ t.life = .connected) ∨
      (s.ports.cmd = 0x7000 ∧ t.life = .stopped)) ∧
    (s.life = .connected → t.life ≠ .connected →
      (s.ports.cmd = 0xA000 ∧ t.life = .idle) ∨ (s.ports.cmd = 0x7000 ∧ t.life = .stopped)) ∧
    (s.ports.cmd = 0x7000 → t.life = .stopped) ∧
    (s.life = .stopped → t.life ≠ .stopped → s.ports.cmd = 0x6000 ∧ t.life = .idle)

/-- R79: the timeout happens on exactly the CTICK that brings the countdown to 0, with `T_ADV_STOP` emitted exactly once;
on entry the countdown is ADV_TIMEOUT_TICKS. -/
def Obligations.CountdownTimesOutOnItsLastTick : Prop :=
  ∀ s : State, s.DeadlineInv → s.life = .advertising →
    (∀ n < s.deadline.toNat, ∃ t, runCommands (List.replicate n .ctick) s = some (t, []) ∧ t.life = .advertising ∧
      t.deadline.toNat = s.deadline.toNat - n) ∧
    runCommands (List.replicate s.deadline.toNat .ctick) s =
      some ({ s with life := .idle, deadline := 0, events := [.tAdvStop], resp := 0 }, [.tAdvStop])

/-- 70_reset_and_hazards.md R104: STOP keeps InputState, `dirty`, the debounce records, `q_prev` and the status bits, and
clears `deadline` and the seeds. -/
def Obligations.StopIsNoReset : Prop :=
  ∀ s : State, s.Inv → ∃ ev, exec .stop s = .next { s with
    life := .stopped, deadline := 0, qSeeded := List.replicate s.cfg.ne false, events := ev, resp := 0 }

/-- 60_exceptions.md R93: requests of one period merged in the recommended order complete; with STOP among them the period
ends STOPPED; and from ADVERTISING a connection wins over the timeout. -/
def Obligations.MergedPeriodOutcome : Prop :=
  ∀ (s : State) (cmds : List Instr), cmds.Sublist mergeOrder → ∃ t ev, runCommands cmds s = some (t, ev) ∧
    (.stop ∈ cmds → t.life = .stopped) ∧
    (s.life = .advertising → .linkUp ∈ cmds → .stop ∉ cmds → t.life = .connected)

/-! ## Emission and control (43_emission_and_control.md) -/

/-- R83: the word of EMIT, and EMIT in every state, with what it puts out, what it clears and its response; nothing else changes. -/
def Obligations.EmitDuty : Prop :=
  encode .emit = 0x4000 ∧ ∀ s : State,
    (s.dirty = false ∨ s.life = .stopped ∨ s.life = .advertising →
      exec .emit s = .next { s with events := [], resp := 0 }) ∧
    (s.dirty = true → s.life = .idle → exec .emit s = .next { s with
      life := .advertising, deadline := BitVec.ofNat 16 s.cfg.advTimeoutTicks, events := [.tAdvStart], resp := 2 }) ∧
    (s.dirty = true → s.life = .connected → s.ports.sendOk = true → exec .emit s = .next { s with
      dirty := false, axisX := 0, axisY := 0, events := [.tSend s.snapshot], resp := 1 }) ∧
    (s.dirty = true → s.life = .connected → s.ports.sendOk = false → exec .emit s = .next { s with
      events := [.tSend s.snapshot], resp := 0 })

/-- R85: `T_SEND` only from a dirty CONNECTED block, once, by EMIT; after an accepted send `dirty` and `axes` are clear;
`dirty` goes from 1 to 0 only so; an EMIT with nothing pending does nothing. -/
def Obligations.SendsAndDirty : Prop :=
  ∀ s t : State, step s = .next t → s.ports.rst = false →
    (∀ snap, .tSend snap ∈ t.events →
      s.life = .connected ∧ s.dirty = true ∧ s.ports.cmd = 0x4000 ∧ t.events = [.tSend snap] ∧
      (s.ports.sendOk = true → t.dirty = false ∧ t.axisX = 0 ∧ t.axisY = 0)) ∧
    (s.dirty = true → t.dirty = false →
      s.ports.cmd = 0x4000 ∧ s.life = .connected ∧ s.ports.sendOk = true) ∧
    (s.ports.cmd = 0x4000 → s.dirty = false →
      t = { s with events := [], resp := 0, inputs := s.inputs.tail, time := s.time + 1 })

/-- R84, 20_memory.md R43: what a step sends is the InputState at the start of that step, field by field. -/
def Obligations.SnapshotIsTheStartOfTheStep : Prop :=
  ∀ (s t : State) (snap : Snapshot), step s = .next t → .tSend snap ∈ t.events →
    snap.buttons = s.buttons ∧ snap.modifiers = s.modifiers ∧ snap.encoders = s.encoders ∧
    snap.axisX = s.axisX ∧ snap.axisY = s.axisY

/-- R86, R87: the two words; NOP changes nothing; CLRSTAT clears the two sticky bits and nothing else. -/
def Obligations.NopAndClrstat : Prop :=
  encode .nop = 0x0000 ∧ encode .clrstat = 0xB000 ∧
  ∀ s : State, exec .nop s = .next { s with events := [], resp := 0 } ∧
    exec .clrstat s = .next { s with statusBadcmd := false, statusIgn := false, events := [], resp := 0 }

/-! ## The register read port (20_memory.md) -/

/-- R32, with the fields of R25, R20, R23 and R24 as numbers: every address of the map. Two clauses rest on the model: the
bits [1:0] of QSTATE of an unseeded channel, where 93_implementation_defined.md row 1 allows any value (log entry 7), and
the word that holds an accumulator (log entry 2), which the premise `s.Inv` ties to its ENC_W bits. -/
def Obligations.ReadPortMap : Prop :=
  ∀ s : State, s.cfg.wf = true →
    (s.readPort 0x00).toNat =
      (match s.life with | .stopped => 0 | .idle => 1 | .advertising => 2 | .connected => 3) + 4 * s.dirty.toNat + 8 * s.statusBadcmd.toNat +
      16 * s.statusIgn.toNat ∧
    s.readPort 0x01 = s.deadline ∧
    (s.readPort 0x02).toNat = s.modifiers.toNat ∧
    (s.readPort 0x03).toNat = s.axisX.toNat + 256 * s.axisY.toNat ∧
    (∀ i < s.cfg.nb, (s.readPort (BitVec.ofNat 8 (0x10 + i))).toNat = (s.button i).toNat) ∧
    (∀ j < s.cfg.ne, (s.readPort (BitVec.ofNat 8 (0x20 + j))).toInt = (s.encoder j).toInt) ∧
    (s.Inv → ∀ j < s.cfg.ne, s.readPort (BitVec.ofNat 8 (0x20 + j)) =
      ((s.encoder j).setWidth s.cfg.encW).signExtend 16) ∧
    (∀ j < s.cfg.ne, (s.readPort (BitVec.ofNat 8 (0x30 + j))).toNat =
      (s.prevCode j).toNat + 4 * (s.seeded j).toNat) ∧
    (∀ c < s.cfg.nch, (s.readPort (BitVec.ofNat 8 (0x40 + c))).toNat =
      (s.stable c).toNat + 16 * (s.count c).toNat)

/-- R33: an address R32 does not list reads 0. -/
def Obligations.UnlistedAddressReadsZero : Prop :=
  ∀ (s : State) (a : BitVec 8), 4 ≤ a.toNat →
    ¬ (0x10 ≤ a.toNat ∧ a.toNat < 0x10 + s.cfg.nb) → ¬ (0x20 ≤ a.toNat ∧ a.toNat < 0x20 + s.cfg.ne) →
    ¬ (0x30 ≤ a.toNat ∧ a.toNat < 0x30 + s.cfg.ne) → ¬ (0x40 ≤ a.toNat ∧ a.toNat < 0x40 + s.cfg.nch) →
    s.readPort a = 0
end

