-- ==== Sys2Proof/Laws/Decode.lean ====
section
/-! SUPPORT. The fields of a command word as numbers, and what the field decoders accept (30_encoding.md R44, R45). -/

namespace Sys2Proof

theorem opField_toNat (w : Word) : (opField w).toNat = w.toNat / 4096 := by
  have := w.isLt
  simp only [opField, BitVec.extractLsb'_toNat, Nat.shiftRight_eq_div_pow]
  omega

theorem chField_toNat (w : Word) : (chField w).toNat = w.toNat / 256 % 16 := by
  simp [chField, BitVec.extractLsb'_toNat, Nat.shiftRight_eq_div_pow]

theorem dataField_toNat (w : Word) : (dataField w).toNat = w.toNat % 256 := by
  simp [dataField, BitVec.extractLsb'_toNat]

theorem lowField_toNat (w : Word) : (lowField w).toNat = w.toNat % 4096 := by
  simp [lowField, BitVec.extractLsb'_toNat]

/-- Concatenation as a number (00_scope.md R9). -/
theorem append_toNat {m n : Nat} (a : BitVec m) (b : BitVec n) : (a ++ b).toNat = a.toNat * 2 ^ n + b.toNat := by
  rw [BitVec.toNat_append, ← Nat.shiftLeft_add_eq_or_of_lt b.isLt, Nat.shiftLeft_eq]

theorem commandWord_toNat (op ch : Nibble) (data : Byte) :
    (commandWord op ch data).toNat = op.toNat * 4096 + ch.toNat * 256 + data.toNat := by
  unfold commandWord
  rw [append_toNat, append_toNat]
  omega

/-- A word is made of its fields. -/
theorem commandWord_fields (w : Word) : commandWord (opField w) (chField w) (dataField w) = w := by
  apply BitVec.eq_of_toNat_eq
  rw [commandWord_toNat, opField_toNat, chField_toNat, dataField_toNat]
  omega

theorem opField_commandWord (op ch : Nibble) (data : Byte) : opField (commandWord op ch data) = op := by
  apply BitVec.eq_of_toNat_eq
  rw [opField_toNat, commandWord_toNat]
  have := ch.isLt
  have := data.isLt
  omega

theorem chField_commandWord (op ch : Nibble) (data : Byte) : chField (commandWord op ch data) = ch := by
  apply BitVec.eq_of_toNat_eq
  rw [chField_toNat, commandWord_toNat]
  have := ch.isLt
  have := data.isLt
  omega

theorem dataField_commandWord (op ch : Nibble) (data : Byte) : dataField (commandWord op ch data) = data := by
  apply BitVec.eq_of_toNat_eq
  rw [dataField_toNat, commandWord_toNat]
  have := data.isLt
  omega

/-- An operation without operands is accepted exactly when CH and DATA are 0. -/
theorem decodePlain_ok {w : Word} {i j : Instr} :
    decodePlain w i = .ok j ↔ j = i ∧ chField w = 0 ∧ dataField w = 0 := by
  unfold decodePlain
  split
  · simp_all
  · split
    · simp_all
    · simp_all [eq_comm]

/-- The operand part of DATA is what is left when its must-be-zero bits are 0. -/
theorem qdecData (d : Byte) (h : d.extractLsb' 2 6 = 0) :
    0#6 ++ BitVec.ofBool (d.getLsbD 1) ++ BitVec.ofBool (d.getLsbD 0) = d := by
  revert d; decide

theorem dsampData (d : Byte) (h : d.extractLsb' 1 7 = 0) : 0#7 ++ BitVec.ofBool (d.getLsbD 0) = d := by
  revert d; decide

/-- The word of a reserved operation code. -/
theorem reservedWord_toNat (op : Nibble) (low : BitVec 12) :
    (op ++ low : Word).toNat = op.toNat * 4096 + low.toNat := append_toNat op low

theorem opField_reserved (op : Nibble) (low : BitVec 12) : opField (op ++ low : Word) = op := by
  apply BitVec.eq_of_toNat_eq
  rw [opField_toNat, reservedWord_toNat]
  have := low.isLt
  omega

theorem lowField_reserved (op : Nibble) (low : BitVec 12) : lowField (op ++ low : Word) = low := by
  apply BitVec.eq_of_toNat_eq
  rw [lowField_toNat, reservedWord_toNat]
  have := low.isLt
  omega

theorem reserved_fields (w : Word) : (opField w ++ lowField w : Word) = w := by
  apply BitVec.eq_of_toNat_eq
  rw [reservedWord_toNat, opField_toNat, lowField_toNat]
  omega

end Sys2Proof
end

