-- ==== Sys2Proof/Laws/State.lean ====
section
/-! SUPPORT. One lemma per field per update of the state, so that no proof unfolds a record update. -/

namespace Sys2Proof.Machine

variable (s : State)

/-! ### The outputs of a step -/

@[simp] theorem State.out_cfg (ev : List Event) (r : Word) : (s.out ev r).cfg = s.cfg := rfl
@[simp] theorem State.out_buttons (ev : List Event) (r : Word) : (s.out ev r).buttons = s.buttons := rfl
@[simp] theorem State.out_modifiers (ev : List Event) (r : Word) : (s.out ev r).modifiers = s.modifiers := rfl
@[simp] theorem State.out_encoders (ev : List Event) (r : Word) : (s.out ev r).encoders = s.encoders := rfl
@[simp] theorem State.out_axisX (ev : List Event) (r : Word) : (s.out ev r).axisX = s.axisX := rfl
@[simp] theorem State.out_axisY (ev : List Event) (r : Word) : (s.out ev r).axisY = s.axisY := rfl
@[simp] theorem State.out_dirty (ev : List Event) (r : Word) : (s.out ev r).dirty = s.dirty := rfl
@[simp] theorem State.out_life (ev : List Event) (r : Word) : (s.out ev r).life = s.life := rfl
@[simp] theorem State.out_deadline (ev : List Event) (r : Word) : (s.out ev r).deadline = s.deadline := rfl
@[simp] theorem State.out_qPrev (ev : List Event) (r : Word) : (s.out ev r).qPrev = s.qPrev := rfl
@[simp] theorem State.out_qSeeded (ev : List Event) (r : Word) : (s.out ev r).qSeeded = s.qSeeded := rfl
@[simp] theorem State.out_dbStable (ev : List Event) (r : Word) : (s.out ev r).dbStable = s.dbStable := rfl
@[simp] theorem State.out_dbCnt (ev : List Event) (r : Word) : (s.out ev r).dbCnt = s.dbCnt := rfl
@[simp] theorem State.out_statusBadcmd (ev : List Event) (r : Word) : (s.out ev r).statusBadcmd = s.statusBadcmd := rfl
@[simp] theorem State.out_statusIgn (ev : List Event) (r : Word) : (s.out ev r).statusIgn = s.statusIgn := rfl
@[simp] theorem State.out_events (ev : List Event) (r : Word) : (s.out ev r).events = ev := rfl
@[simp] theorem State.out_resp (ev : List Event) (r : Word) : (s.out ev r).resp = r := rfl
@[simp] theorem State.out_inputs (ev : List Event) (r : Word) : (s.out ev r).inputs = s.inputs := rfl
@[simp] theorem State.out_time (ev : List Event) (r : Word) : (s.out ev r).time = s.time := rfl

/-! ### A step without effect -/

@[simp] theorem State.quiet_cfg : s.quiet.cfg = s.cfg := rfl
@[simp] theorem State.quiet_buttons : s.quiet.buttons = s.buttons := rfl
@[simp] theorem State.quiet_modifiers : s.quiet.modifiers = s.modifiers := rfl
@[simp] theorem State.quiet_encoders : s.quiet.encoders = s.encoders := rfl
@[simp] theorem State.quiet_axisX : s.quiet.axisX = s.axisX := rfl
@[simp] theorem State.quiet_axisY : s.quiet.axisY = s.axisY := rfl
@[simp] theorem State.quiet_dirty : s.quiet.dirty = s.dirty := rfl
@[simp] theorem State.quiet_life : s.quiet.life = s.life := rfl
@[simp] theorem State.quiet_deadline : s.quiet.deadline = s.deadline := rfl
@[simp] theorem State.quiet_qPrev : s.quiet.qPrev = s.qPrev := rfl
@[simp] theorem State.quiet_qSeeded : s.quiet.qSeeded = s.qSeeded := rfl
@[simp] theorem State.quiet_dbStable : s.quiet.dbStable = s.dbStable := rfl
@[simp] theorem State.quiet_dbCnt : s.quiet.dbCnt = s.dbCnt := rfl
@[simp] theorem State.quiet_statusBadcmd : s.quiet.statusBadcmd = s.statusBadcmd := rfl
@[simp] theorem State.quiet_statusIgn : s.quiet.statusIgn = s.statusIgn := rfl
@[simp] theorem State.quiet_events : s.quiet.events = [] := rfl
@[simp] theorem State.quiet_resp : s.quiet.resp = 0 := rfl
@[simp] theorem State.quiet_inputs : s.quiet.inputs = s.inputs := rfl
@[simp] theorem State.quiet_time : s.quiet.time = s.time := rfl

/-! ### BadCmd (30_encoding.md R49) -/

@[simp] theorem State.badCmd_cfg : s.badCmd.cfg = s.cfg := rfl
@[simp] theorem State.badCmd_buttons : s.badCmd.buttons = s.buttons := rfl
@[simp] theorem State.badCmd_modifiers : s.badCmd.modifiers = s.modifiers := rfl
@[simp] theorem State.badCmd_encoders : s.badCmd.encoders = s.encoders := rfl
@[simp] theorem State.badCmd_axisX : s.badCmd.axisX = s.axisX := rfl
@[simp] theorem State.badCmd_axisY : s.badCmd.axisY = s.axisY := rfl
@[simp] theorem State.badCmd_dirty : s.badCmd.dirty = s.dirty := rfl
@[simp] theorem State.badCmd_life : s.badCmd.life = s.life := rfl
@[simp] theorem State.badCmd_deadline : s.badCmd.deadline = s.deadline := rfl
@[simp] theorem State.badCmd_qPrev : s.badCmd.qPrev = s.qPrev := rfl
@[simp] theorem State.badCmd_qSeeded : s.badCmd.qSeeded = s.qSeeded := rfl
@[simp] theorem State.badCmd_dbStable : s.badCmd.dbStable = s.dbStable := rfl
@[simp] theorem State.badCmd_dbCnt : s.badCmd.dbCnt = s.dbCnt := rfl
@[simp] theorem State.badCmd_statusBadcmd : s.badCmd.statusBadcmd = true := rfl
@[simp] theorem State.badCmd_statusIgn : s.badCmd.statusIgn = s.statusIgn := rfl
@[simp] theorem State.badCmd_events : s.badCmd.events = [] := rfl
@[simp] theorem State.badCmd_resp : s.badCmd.resp = 0 := rfl
@[simp] theorem State.badCmd_inputs : s.badCmd.inputs = s.inputs := rfl
@[simp] theorem State.badCmd_time : s.badCmd.time = s.time := rfl

/-! ### IGN (60_exceptions.md R90) -/

@[simp] theorem State.ignored_cfg : s.ignored.cfg = s.cfg := rfl
@[simp] theorem State.ignored_buttons : s.ignored.buttons = s.buttons := rfl
@[simp] theorem State.ignored_modifiers : s.ignored.modifiers = s.modifiers := rfl
@[simp] theorem State.ignored_encoders : s.ignored.encoders = s.encoders := rfl
@[simp] theorem State.ignored_axisX : s.ignored.axisX = s.axisX := rfl
@[simp] theorem State.ignored_axisY : s.ignored.axisY = s.axisY := rfl
@[simp] theorem State.ignored_dirty : s.ignored.dirty = s.dirty := rfl
@[simp] theorem State.ignored_life : s.ignored.life = s.life := rfl
@[simp] theorem State.ignored_deadline : s.ignored.deadline = s.deadline := rfl
@[simp] theorem State.ignored_qPrev : s.ignored.qPrev = s.qPrev := rfl
@[simp] theorem State.ignored_qSeeded : s.ignored.qSeeded = s.qSeeded := rfl
@[simp] theorem State.ignored_dbStable : s.ignored.dbStable = s.dbStable := rfl
@[simp] theorem State.ignored_dbCnt : s.ignored.dbCnt = s.dbCnt := rfl
@[simp] theorem State.ignored_statusBadcmd : s.ignored.statusBadcmd = s.statusBadcmd := rfl
@[simp] theorem State.ignored_statusIgn : s.ignored.statusIgn = true := rfl
@[simp] theorem State.ignored_events : s.ignored.events = [] := rfl
@[simp] theorem State.ignored_resp : s.ignored.resp = 0 := rfl
@[simp] theorem State.ignored_inputs : s.ignored.inputs = s.inputs := rfl
@[simp] theorem State.ignored_time : s.ignored.time = s.time := rfl

/-! ### CLRSTAT's clearing (43_emission_and_control.md R87) -/

@[simp] theorem State.clearStatus_cfg : s.clearStatus.cfg = s.cfg := rfl
@[simp] theorem State.clearStatus_buttons : s.clearStatus.buttons = s.buttons := rfl
@[simp] theorem State.clearStatus_modifiers : s.clearStatus.modifiers = s.modifiers := rfl
@[simp] theorem State.clearStatus_encoders : s.clearStatus.encoders = s.encoders := rfl
@[simp] theorem State.clearStatus_axisX : s.clearStatus.axisX = s.axisX := rfl
@[simp] theorem State.clearStatus_axisY : s.clearStatus.axisY = s.axisY := rfl
@[simp] theorem State.clearStatus_dirty : s.clearStatus.dirty = s.dirty := rfl
@[simp] theorem State.clearStatus_life : s.clearStatus.life = s.life := rfl
@[simp] theorem State.clearStatus_deadline : s.clearStatus.deadline = s.deadline := rfl
@[simp] theorem State.clearStatus_qPrev : s.clearStatus.qPrev = s.qPrev := rfl
@[simp] theorem State.clearStatus_qSeeded : s.clearStatus.qSeeded = s.qSeeded := rfl
@[simp] theorem State.clearStatus_dbStable : s.clearStatus.dbStable = s.dbStable := rfl
@[simp] theorem State.clearStatus_dbCnt : s.clearStatus.dbCnt = s.dbCnt := rfl
@[simp] theorem State.clearStatus_statusBadcmd : s.clearStatus.statusBadcmd = false := rfl
@[simp] theorem State.clearStatus_statusIgn : s.clearStatus.statusIgn = false := rfl
@[simp] theorem State.clearStatus_events : s.clearStatus.events = s.events := rfl
@[simp] theorem State.clearStatus_resp : s.clearStatus.resp = s.resp := rfl
@[simp] theorem State.clearStatus_inputs : s.clearStatus.inputs = s.inputs := rfl
@[simp] theorem State.clearStatus_time : s.clearStatus.time = s.time := rfl

/-! ### Clearing the seeds (42_connection_lifecycle.md R72) -/

@[simp] theorem State.clearSeeds_cfg : s.clearSeeds.cfg = s.cfg := rfl
@[simp] theorem State.clearSeeds_buttons : s.clearSeeds.buttons = s.buttons := rfl
@[simp] theorem State.clearSeeds_modifiers : s.clearSeeds.modifiers = s.modifiers := rfl
@[simp] theorem State.clearSeeds_encoders : s.clearSeeds.encoders = s.encoders := rfl
@[simp] theorem State.clearSeeds_axisX : s.clearSeeds.axisX = s.axisX := rfl
@[simp] theorem State.clearSeeds_axisY : s.clearSeeds.axisY = s.axisY := rfl
@[simp] theorem State.clearSeeds_dirty : s.clearSeeds.dirty = s.dirty := rfl
@[simp] theorem State.clearSeeds_life : s.clearSeeds.life = s.life := rfl
@[simp] theorem State.clearSeeds_deadline : s.clearSeeds.deadline = s.deadline := rfl
@[simp] theorem State.clearSeeds_qPrev : s.clearSeeds.qPrev = s.qPrev := rfl
@[simp] theorem State.clearSeeds_qSeeded : s.clearSeeds.qSeeded = perChannel s.cfg.ne fun _ => false := rfl
@[simp] theorem State.clearSeeds_dbStable : s.clearSeeds.dbStable = s.dbStable := rfl
@[simp] theorem State.clearSeeds_dbCnt : s.clearSeeds.dbCnt = s.dbCnt := rfl
@[simp] theorem State.clearSeeds_statusBadcmd : s.clearSeeds.statusBadcmd = s.statusBadcmd := rfl
@[simp] theorem State.clearSeeds_statusIgn : s.clearSeeds.statusIgn = s.statusIgn := rfl
@[simp] theorem State.clearSeeds_events : s.clearSeeds.events = s.events := rfl
@[simp] theorem State.clearSeeds_resp : s.clearSeeds.resp = s.resp := rfl
@[simp] theorem State.clearSeeds_inputs : s.clearSeeds.inputs = s.inputs := rfl
@[simp] theorem State.clearSeeds_time : s.clearSeeds.time = s.time := rfl

/-! ### The digital writes (41_debounce_sampler.md R65 to R67) -/

@[simp] theorem State.writeDigital_cfg (st : List Bool) (cnt : List Nibble) : (s.writeDigital st cnt).cfg = s.cfg := rfl
@[simp] theorem State.writeDigital_buttons (st : List Bool) (cnt : List Nibble) : (s.writeDigital st cnt).buttons = s.keyMapping st := rfl
@[simp] theorem State.writeDigital_modifiers (st : List Bool) (cnt : List Nibble) : (s.writeDigital st cnt).modifiers = modMapping s.cfg st := rfl
@[simp] theorem State.writeDigital_encoders (st : List Bool) (cnt : List Nibble) : (s.writeDigital st cnt).encoders = s.encoders := rfl
@[simp] theorem State.writeDigital_axisX (st : List Bool) (cnt : List Nibble) : (s.writeDigital st cnt).axisX = sat8 (s.axisX.toInt + axisSum s.cfg .x s.dbStable st) := rfl
@[simp] theorem State.writeDigital_axisY (st : List Bool) (cnt : List Nibble) : (s.writeDigital st cnt).axisY = sat8 (s.axisY.toInt + axisSum s.cfg .y s.dbStable st) := rfl
@[simp] theorem State.writeDigital_dirty (st : List Bool) (cnt : List Nibble) : (s.writeDigital st cnt).dirty = s.dirty := rfl
@[simp] theorem State.writeDigital_life (st : List Bool) (cnt : List Nibble) : (s.writeDigital st cnt).life = s.life := rfl
@[simp] theorem State.writeDigital_deadline (st : List Bool) (cnt : List Nibble) : (s.writeDigital st cnt).deadline = s.deadline := rfl
@[simp] theorem State.writeDigital_qPrev (st : List Bool) (cnt : List Nibble) : (s.writeDigital st cnt).qPrev = s.qPrev := rfl
@[simp] theorem State.writeDigital_qSeeded (st : List Bool) (cnt : List Nibble) : (s.writeDigital st cnt).qSeeded = s.qSeeded := rfl
@[simp] theorem State.writeDigital_dbStable (st : List Bool) (cnt : List Nibble) : (s.writeDigital st cnt).dbStable = st := rfl
@[simp] theorem State.writeDigital_dbCnt (st : List Bool) (cnt : List Nibble) : (s.writeDigital st cnt).dbCnt = cnt := rfl
@[simp] theorem State.writeDigital_statusBadcmd (st : List Bool) (cnt : List Nibble) : (s.writeDigital st cnt).statusBadcmd = s.statusBadcmd := rfl
@[simp] theorem State.writeDigital_statusIgn (st : List Bool) (cnt : List Nibble) : (s.writeDigital st cnt).statusIgn = s.statusIgn := rfl
@[simp] theorem State.writeDigital_events (st : List Bool) (cnt : List Nibble) : (s.writeDigital st cnt).events = s.events := rfl
@[simp] theorem State.writeDigital_resp (st : List Bool) (cnt : List Nibble) : (s.writeDigital st cnt).resp = s.resp := rfl
@[simp] theorem State.writeDigital_inputs (st : List Bool) (cnt : List Nibble) : (s.writeDigital st cnt).inputs = s.inputs := rfl
@[simp] theorem State.writeDigital_time (st : List Bool) (cnt : List Nibble) : (s.writeDigital st cnt).time = s.time := rfl

/-! ### Setting `dirty` (41_debounce_sampler.md R68) -/

@[simp] theorem State.markDirty_cfg (chg : Bool) : (s.markDirty chg).cfg = s.cfg := rfl
@[simp] theorem State.markDirty_buttons (chg : Bool) : (s.markDirty chg).buttons = s.buttons := rfl
@[simp] theorem State.markDirty_modifiers (chg : Bool) : (s.markDirty chg).modifiers = s.modifiers := rfl
@[simp] theorem State.markDirty_encoders (chg : Bool) : (s.markDirty chg).encoders = s.encoders := rfl
@[simp] theorem State.markDirty_axisX (chg : Bool) : (s.markDirty chg).axisX = s.axisX := rfl
@[simp] theorem State.markDirty_axisY (chg : Bool) : (s.markDirty chg).axisY = s.axisY := rfl
@[simp] theorem State.markDirty_dirty (chg : Bool) : (s.markDirty chg).dirty = (s.dirty || chg) := rfl
@[simp] theorem State.markDirty_life (chg : Bool) : (s.markDirty chg).life = s.life := rfl
@[simp] theorem State.markDirty_deadline (chg : Bool) : (s.markDirty chg).deadline = s.deadline := rfl
@[simp] theorem State.markDirty_qPrev (chg : Bool) : (s.markDirty chg).qPrev = s.qPrev := rfl
@[simp] theorem State.markDirty_qSeeded (chg : Bool) : (s.markDirty chg).qSeeded = s.qSeeded := rfl
@[simp] theorem State.markDirty_dbStable (chg : Bool) : (s.markDirty chg).dbStable = s.dbStable := rfl
@[simp] theorem State.markDirty_dbCnt (chg : Bool) : (s.markDirty chg).dbCnt = s.dbCnt := rfl
@[simp] theorem State.markDirty_statusBadcmd (chg : Bool) : (s.markDirty chg).statusBadcmd = s.statusBadcmd := rfl
@[simp] theorem State.markDirty_statusIgn (chg : Bool) : (s.markDirty chg).statusIgn = s.statusIgn := rfl
@[simp] theorem State.markDirty_events (chg : Bool) : (s.markDirty chg).events = s.events := rfl
@[simp] theorem State.markDirty_resp (chg : Bool) : (s.markDirty chg).resp = s.resp := rfl
@[simp] theorem State.markDirty_inputs (chg : Bool) : (s.markDirty chg).inputs = s.inputs := rfl
@[simp] theorem State.markDirty_time (chg : Bool) : (s.markDirty chg).time = s.time := rfl

/-! ### Entering ADVERTISING (42_connection_lifecycle.md R73) -/

@[simp] theorem State.enterAdvertising_cfg : s.enterAdvertising.cfg = s.cfg := rfl
@[simp] theorem State.enterAdvertising_buttons : s.enterAdvertising.buttons = s.buttons := rfl
@[simp] theorem State.enterAdvertising_modifiers : s.enterAdvertising.modifiers = s.modifiers := rfl
@[simp] theorem State.enterAdvertising_encoders : s.enterAdvertising.encoders = s.encoders := rfl
@[simp] theorem State.enterAdvertising_axisX : s.enterAdvertising.axisX = s.axisX := rfl
@[simp] theorem State.enterAdvertising_axisY : s.enterAdvertising.axisY = s.axisY := rfl
@[simp] theorem State.enterAdvertising_dirty : s.enterAdvertising.dirty = s.dirty := rfl
@[simp] theorem State.enterAdvertising_life : s.enterAdvertising.life = .advertising := rfl
@[simp] theorem State.enterAdvertising_deadline : s.enterAdvertising.deadline = BitVec.ofNat 16 s.cfg.advTimeoutTicks := rfl
@[simp] theorem State.enterAdvertising_qPrev : s.enterAdvertising.qPrev = s.qPrev := rfl
@[simp] theorem State.enterAdvertising_qSeeded : s.enterAdvertising.qSeeded = s.qSeeded := rfl
@[simp] theorem State.enterAdvertising_dbStable : s.enterAdvertising.dbStable = s.dbStable := rfl
@[simp] theorem State.enterAdvertising_dbCnt : s.enterAdvertising.dbCnt = s.dbCnt := rfl
@[simp] theorem State.enterAdvertising_statusBadcmd : s.enterAdvertising.statusBadcmd = s.statusBadcmd := rfl
@[simp] theorem State.enterAdvertising_statusIgn : s.enterAdvertising.statusIgn = s.statusIgn := rfl
@[simp] theorem State.enterAdvertising_events : s.enterAdvertising.events = s.events := rfl
@[simp] theorem State.enterAdvertising_resp : s.enterAdvertising.resp = s.resp := rfl
@[simp] theorem State.enterAdvertising_inputs : s.enterAdvertising.inputs = s.inputs := rfl
@[simp] theorem State.enterAdvertising_time : s.enterAdvertising.time = s.time := rfl

/-! ### The end of a step -/

@[simp] theorem State.consumed_cfg : s.consumed.cfg = s.cfg := rfl
@[simp] theorem State.consumed_buttons : s.consumed.buttons = s.buttons := rfl
@[simp] theorem State.consumed_modifiers : s.consumed.modifiers = s.modifiers := rfl
@[simp] theorem State.consumed_encoders : s.consumed.encoders = s.encoders := rfl
@[simp] theorem State.consumed_axisX : s.consumed.axisX = s.axisX := rfl
@[simp] theorem State.consumed_axisY : s.consumed.axisY = s.axisY := rfl
@[simp] theorem State.consumed_dirty : s.consumed.dirty = s.dirty := rfl
@[simp] theorem State.consumed_life : s.consumed.life = s.life := rfl
@[simp] theorem State.consumed_deadline : s.consumed.deadline = s.deadline := rfl
@[simp] theorem State.consumed_qPrev : s.consumed.qPrev = s.qPrev := rfl
@[simp] theorem State.consumed_qSeeded : s.consumed.qSeeded = s.qSeeded := rfl
@[simp] theorem State.consumed_dbStable : s.consumed.dbStable = s.dbStable := rfl
@[simp] theorem State.consumed_dbCnt : s.consumed.dbCnt = s.dbCnt := rfl
@[simp] theorem State.consumed_statusBadcmd : s.consumed.statusBadcmd = s.statusBadcmd := rfl
@[simp] theorem State.consumed_statusIgn : s.consumed.statusIgn = s.statusIgn := rfl
@[simp] theorem State.consumed_events : s.consumed.events = s.events := rfl
@[simp] theorem State.consumed_resp : s.consumed.resp = s.resp := rfl
@[simp] theorem State.consumed_inputs : s.consumed.inputs = s.inputs.tail := rfl
@[simp] theorem State.consumed_time : s.consumed.time = s.time + 1 := rfl

/-! ### A word put on the command port -/

@[simp] theorem State.withFetchWord_cfg (n w : Nat) : (s.withFetchWord n w).cfg = s.cfg := rfl
@[simp] theorem State.withFetchWord_buttons (n w : Nat) : (s.withFetchWord n w).buttons = s.buttons := rfl
@[simp] theorem State.withFetchWord_modifiers (n w : Nat) : (s.withFetchWord n w).modifiers = s.modifiers := rfl
@[simp] theorem State.withFetchWord_encoders (n w : Nat) : (s.withFetchWord n w).encoders = s.encoders := rfl
@[simp] theorem State.withFetchWord_axisX (n w : Nat) : (s.withFetchWord n w).axisX = s.axisX := rfl
@[simp] theorem State.withFetchWord_axisY (n w : Nat) : (s.withFetchWord n w).axisY = s.axisY := rfl
@[simp] theorem State.withFetchWord_dirty (n w : Nat) : (s.withFetchWord n w).dirty = s.dirty := rfl
@[simp] theorem State.withFetchWord_life (n w : Nat) : (s.withFetchWord n w).life = s.life := rfl
@[simp] theorem State.withFetchWord_deadline (n w : Nat) : (s.withFetchWord n w).deadline = s.deadline := rfl
@[simp] theorem State.withFetchWord_qPrev (n w : Nat) : (s.withFetchWord n w).qPrev = s.qPrev := rfl
@[simp] theorem State.withFetchWord_qSeeded (n w : Nat) : (s.withFetchWord n w).qSeeded = s.qSeeded := rfl
@[simp] theorem State.withFetchWord_dbStable (n w : Nat) : (s.withFetchWord n w).dbStable = s.dbStable := rfl
@[simp] theorem State.withFetchWord_dbCnt (n w : Nat) : (s.withFetchWord n w).dbCnt = s.dbCnt := rfl
@[simp] theorem State.withFetchWord_statusBadcmd (n w : Nat) : (s.withFetchWord n w).statusBadcmd = s.statusBadcmd := rfl
@[simp] theorem State.withFetchWord_statusIgn (n w : Nat) : (s.withFetchWord n w).statusIgn = s.statusIgn := rfl
@[simp] theorem State.withFetchWord_events (n w : Nat) : (s.withFetchWord n w).events = s.events := rfl
@[simp] theorem State.withFetchWord_resp (n w : Nat) : (s.withFetchWord n w).resp = s.resp := rfl
@[simp] theorem State.withFetchWord_inputs (n w : Nat) : (s.withFetchWord n w).inputs = s.ports.withWord n w :: s.inputs.tail := rfl
@[simp] theorem State.withFetchWord_time (n w : Nat) : (s.withFetchWord n w).time = s.time := rfl

/-! ### Power-on reset (70_reset_and_hazards.md R103) -/

@[simp] theorem State.powerOnReset_cfg : s.powerOnReset.cfg = s.cfg := rfl
@[simp] theorem State.powerOnReset_buttons : s.powerOnReset.buttons = List.replicate s.cfg.nb 0 := rfl
@[simp] theorem State.powerOnReset_modifiers : s.powerOnReset.modifiers = 0 := rfl
@[simp] theorem State.powerOnReset_encoders : s.powerOnReset.encoders = List.replicate s.cfg.ne 0 := rfl
@[simp] theorem State.powerOnReset_axisX : s.powerOnReset.axisX = 0 := rfl
@[simp] theorem State.powerOnReset_axisY : s.powerOnReset.axisY = 0 := rfl
@[simp] theorem State.powerOnReset_dirty : s.powerOnReset.dirty = false := rfl
@[simp] theorem State.powerOnReset_life : s.powerOnReset.life = .stopped := rfl
@[simp] theorem State.powerOnReset_deadline : s.powerOnReset.deadline = 0 := rfl
@[simp] theorem State.powerOnReset_qPrev : s.powerOnReset.qPrev = List.replicate s.cfg.ne 0 := rfl
@[simp] theorem State.powerOnReset_qSeeded : s.powerOnReset.qSeeded = List.replicate s.cfg.ne false := rfl
@[simp] theorem State.powerOnReset_dbStable : s.powerOnReset.dbStable = List.replicate s.cfg.nch false := rfl
@[simp] theorem State.powerOnReset_dbCnt : s.powerOnReset.dbCnt = List.replicate s.cfg.nch 0 := rfl
@[simp] theorem State.powerOnReset_statusBadcmd : s.powerOnReset.statusBadcmd = false := rfl
@[simp] theorem State.powerOnReset_statusIgn : s.powerOnReset.statusIgn = false := rfl
@[simp] theorem State.powerOnReset_events : s.powerOnReset.events = [] := rfl
@[simp] theorem State.powerOnReset_resp : s.powerOnReset.resp = 0 := rfl
@[simp] theorem State.powerOnReset_inputs : s.powerOnReset.inputs = s.inputs := rfl
@[simp] theorem State.powerOnReset_time : s.powerOnReset.time = s.time := rfl

end Sys2Proof.Machine
end

