-- ==== Sys2Proof/Laws/Ops.lean ====
section
/-! SUPPORT. What each shared operation does, said once. -/

namespace Sys2Proof.Machine

/-! ### Lists with one entry per channel -/

@[simp] theorem perChannel_length {α : Type} (n : Nat) (f : Nat → α) : (perChannel n f).length = n := by
  simp [perChannel]

theorem perChannel_getD {α : Type} {n i : Nat} (f : Nat → α) (d : α) (h : i < n) : (perChannel n f).getD i d = f i := by
  simp [perChannel, List.getD, h]

theorem perChannel_getD_ge {α : Type} {n i : Nat} (f : Nat → α) (d : α) (h : n ≤ i) :
    (perChannel n f).getD i d = d := by
  have : ¬ i < n := by omega
  simp [perChannel, List.getD, this]

theorem map_perChannel {α β : Type} (n : Nat) (f : Nat → α) (g : α → β) :
    (perChannel n f).map g = perChannel n fun i => g (f i) := by
  simp [perChannel]

theorem perChannel_congr {α : Type} {n : Nat} {f g : Nat → α} (h : ∀ i < n, f i = g i) :
    perChannel n f = perChannel n g := by
  simpa [perChannel] using h

theorem perChannel_const {α : Type} (n : Nat) (a : α) : perChannel n (fun _ => a) = List.replicate n a := by
  simp [perChannel, List.map_const']

/-- A list with one entry per channel is the list of its entries. -/
theorem perChannel_getD_self {α : Type} (l : List α) (d : α) : perChannel l.length (fun i => l.getD i d) = l := by
  apply List.ext_getElem <;> simp [perChannel, List.getD]
  intro i h
  simp [h]

theorem getD_set {α : Type} (l : List α) (i j : Nat) (a d : α) (h : i < l.length) :
    (l.set i a).getD j d = if j = i then a else l.getD j d := by
  by_cases hj : j = i
  · subst hj; simp [List.getD, h]
  · have : ¬ i = j := fun e => hj e.symm
    simp [List.getD, this, hj]

/-! ### The decode step (40_quadrature_decoder.md R55 to R58) -/

/-- A decode step always leaves the code presented as the stored code. -/
@[simp] theorem qstep_prev (m : QdecMode) (p : Code) (sd : Bool) (c : Code) : (qstep m p sd c).prev = c := by
  unfold qstep; split
  · rfl
  · split
    · simp_all
    · rfl

@[simp] theorem qstep_seeded (m : QdecMode) (p : Code) (sd : Bool) (c : Code) : (qstep m p sd c).seeded = true := by
  unfold qstep; split
  · rfl
  · split <;> rfl

theorem qstep_delta (m : QdecMode) (p : Code) (sd : Bool) (c : Code) :
    (qstep m p sd c).delta = if sd = false ∨ c = p then 0 else transition m p c := by
  unfold qstep; split
  · simp_all
  · split <;> simp_all

theorem transition_range (m : QdecMode) (p c : Code) : -1 ≤ transition m p c ∧ transition m p c ≤ 1 := by
  cases m <;> revert p c <;> decide

theorem qstep_delta_range (m : QdecMode) (p : Code) (sd : Bool) (c : Code) :
    -1 ≤ (qstep m p sd c).delta ∧ (qstep m p sd c).delta ≤ 1 := by
  rw [qstep_delta]; split
  · omega
  · exact transition_range m p c

/-- The accumulator as an integer: the ENC_W-bit value congruent to `n`. -/
theorem wrapEnc_toInt {w : Nat} (n : Int) (hw : w ≤ 16) : (wrapEnc w n).toInt = n.bmod (2 ^ w) := by
  unfold wrapEnc
  rw [BitVec.toInt_signExtend_of_le hw, BitVec.toInt_ofInt]

theorem wrapEnc_wrapEnc {w : Nat} (n : Int) (hw : w ≤ 16) : wrapEnc w (wrapEnc w n).toInt = wrapEnc w n := by
  apply BitVec.eq_of_toInt_eq
  rw [wrapEnc_toInt _ hw, wrapEnc_toInt _ hw, Int.bmod_bmod]

/-- An accumulator word is the sign extension of its own low ENC_W bits. -/
theorem wrapEnc_setWidth {w : Nat} (n : Int) (hw : w ≤ 16) : ((wrapEnc w n).setWidth w).signExtend 16 = wrapEnc w n := by
  unfold wrapEnc
  congr 1
  ext i hi
  have : i < 16 := by omega
  simp [BitVec.getElem_signExtend, hi, this]

theorem wrapEnc_zero (w : Nat) : wrapEnc w 0 = 0 := by
  have : BitVec.ofInt w 0 = 0#w := by simp
  rw [wrapEnc, this]
  apply BitVec.eq_of_getLsbD_eq
  simp [BitVec.getLsbD_signExtend]

/-! ### The debounce step (41_debounce_sampler.md R64) -/

theorem dbstep_same (k : Nat) (st : Bool) (cnt : Nibble) : dbstep k st cnt st = { stable := st, count := 0 } := by
  simp [dbstep]

theorem dbstep_count_lt {k : Nat} (st : Bool) (cnt : Nibble) (lvl : Bool) (hk : 1 ≤ k) (hk' : k ≤ 15) :
    (dbstep k st cnt lvl).count.toNat < k := by
  unfold dbstep; split
  · exact hk
  · split
    · exact hk
    · have : (cnt + 1#4).toNat = (cnt.toNat + 1) % 16 := BitVec.toNat_add cnt 1#4
      show (cnt + 1#4).toNat < k
      omega

/-! ### The modifier and axis mappings (R66, R67) -/

theorem modBit_getLsbD (arg : Byte) (b : Nat) (hb : b < 8) : (modBit arg).getLsbD b = decide (arg.toNat % 8 = b) := by
  have h : (arg.extractLsb' 0 3).toNat = arg.toNat % 8 := by simp [BitVec.extractLsb'_toNat]
  rw [modBit, h, BitVec.getLsbD_shiftLeft]
  have : arg.toNat % 8 < 8 := Nat.mod_lt _ (by decide)
  by_cases e : arg.toNat % 8 = b
  · simp [e, hb]
  · by_cases l : b < arg.toNat % 8
    · simp [l, e]
    · have : b - arg.toNat % 8 ≠ 0 := by omega
      simp [e, BitVec.getLsbD_one, this]

theorem foldr_or_getLsbD (f : Nat → Byte) (l : List Nat) (b : Nat) :
    (l.foldr (fun c m => f c ||| m) 0).getLsbD b = true ↔ ∃ c ∈ l, (f c).getLsbD b = true := by
  induction l with
  | nil => simp
  | cons c l ih => simp [← ih]

/-- Bit `b` of the modifiers is 1 exactly while a MOD channel of that bit is stably active (R66). -/
theorem modMapping_getLsbD (cfg : Config) (st : List Bool) (b : Nat) (hb : b < 8) :
    (modMapping cfg st).getLsbD b = true ↔ ∃ c < cfg.nch, (cfg.channel c).kind = .mod ∧
      (cfg.channel c).arg.toNat % 8 = b ∧ st.getD c false = true := by
  unfold modMapping
  rw [foldr_or_getLsbD]
  simp only [List.mem_range]
  constructor
  · rintro ⟨c, hc, h⟩
    unfold modContribution at h
    split at h
    · rename_i hk
      rw [modBit_getLsbD _ _ hb] at h
      exact ⟨c, hc, hk.1, by simpa using h, hk.2⟩
    · simp at h
  · rintro ⟨c, hc, hk, ha, hs⟩
    refine ⟨c, hc, ?_⟩
    simp only [modContribution, hk, hs, and_self, if_true]
    rw [modBit_getLsbD _ _ hb]
    simpa using ha

/-- `sat8` clamps to the signed 8-bit range (00_scope.md R10). -/
theorem sat8_toInt (n : Int) : (sat8 n).toInt = max (-128) (min 127 n) := by
  unfold sat8
  rw [BitVec.toInt_ofInt]
  apply Int.bmod_eq_of_le <;> omega

theorem sat8_self (x : Byte) : sat8 x.toInt = x := by
  apply BitVec.eq_of_toInt_eq
  rw [sat8_toInt]
  have := BitVec.le_toInt x
  have := BitVec.toInt_lt (x := x)
  omega

/-- No rising edge on an AXIS channel: the axis sum is 0. -/
theorem axisSum_zero (cfg : Config) (axis : Axis) (st0 st1 : List Bool)
    (h : ∀ c < cfg.nch, (cfg.channel c).kind = .axis → st0.getD c false = false → st1.getD c false = false) :
    axisSum cfg axis st0 st1 = 0 := by
  unfold axisSum
  apply List.sum_eq_zero
  intro v hv
  obtain ⟨c, hc, rfl⟩ := List.mem_map.1 hv
  unfold axisContribution
  rw [if_neg]
  rintro ⟨hk, -, h0, h1⟩
  have := h c (by simpa using hc) hk h0
  simp_all

/-! ### Steps -/

/-- Every command has an effect in every state: none faults and none is refused (60_exceptions.md R88). -/
theorem exec_completes (i : Instr) (s : State) : ∃ t, exec i s = .next t := by
  cases i with
  | nop => exact ⟨_, rfl⟩
  | poll => simp only [exec, execPoll]; split <;> exact ⟨_, rfl⟩
  | qdec ch a b =>
    simp only [exec, execQdec]; split
    · exact ⟨_, rfl⟩
    · split <;> exact ⟨_, rfl⟩
  | dsamp ch r =>
    simp only [exec, execDsamp]; split
    · exact ⟨_, rfl⟩
    · split <;> exact ⟨_, rfl⟩
  | emit =>
    simp only [exec, execEmit]; split
    · exact ⟨_, rfl⟩
    · split
      · exact ⟨_, rfl⟩
      · exact ⟨_, rfl⟩
      · exact ⟨_, rfl⟩
      · split <;> exact ⟨_, rfl⟩
  | ctick =>
    simp only [exec, execCtick]; split
    · split <;> exact ⟨_, rfl⟩
    · exact ⟨_, rfl⟩
    · exact ⟨_, rfl⟩
    · exact ⟨_, rfl⟩
  | start => simp only [exec, execStart]; split <;> exact ⟨_, rfl⟩
  | stop => simp only [exec, execStop]; split <;> exact ⟨_, rfl⟩
  | advertise => simp only [exec, execAdvertise]; split <;> exact ⟨_, rfl⟩
  | linkUp => simp only [exec, execLinkUp]; split <;> exact ⟨_, rfl⟩
  | linkDown => simp only [exec, execLinkDown]; split <;> exact ⟨_, rfl⟩
  | clrstat => exact ⟨_, rfl⟩
  | reservedC low => exact ⟨_, rfl⟩
  | reservedD low => exact ⟨_, rfl⟩
  | reservedE low => exact ⟨_, rfl⟩
  | reservedF low => exact ⟨_, rfl⟩

/-- What a step that goes on did: a reset, a command, or BadCmd for a malformed word; then it consumed the sample. -/
theorem step_cases {s t : State} (h : step s = .next t) :
    s.cfg.wf = true ∧
    ((s.ports.rst = true ∧ t = s.powerOnReset.consumed) ∨
     (s.ports.rst = false ∧ ∃ i u, decode s.ports.cmd = .ok i ∧ exec i s = .next u ∧ t = u.consumed) ∨
     (s.ports.rst = false ∧ ∃ m, decode s.ports.cmd = .error m ∧ t = s.badCmd.consumed)) := by
  unfold step at h
  split at h
  · rename_i hw
    refine ⟨hw, ?_⟩
    split at h
    · rename_i hr
      exact .inl ⟨hr, by simpa [endStep] using h.symm⟩
    · rename_i hr
      right
      have hr : s.ports.rst = false := by simpa using hr
      unfold runWord at h
      split at h
      · rename_i i hi
        obtain ⟨u, hu⟩ := exec_completes i s
        rw [hu] at h
        exact .inl ⟨hr, i, u, hi, hu, by simpa [endStep] using h.symm⟩
      · rename_i m hm
        exact .inr ⟨hr, m, hm, by simpa [endStep] using h.symm⟩
  · simp at h

end Sys2Proof.Machine
end

