-- ==== Sys2Proof/Laws/Exec.lean ====
section
/-! SUPPORT. One inversion lemma per command: everything it can do, so that no proof unfolds a meaning. -/

namespace Sys2Proof.Machine

variable {s t : State}

theorem exec_nop_cases (h : exec .nop s = .next t) : t = s.quiet := by
  simpa [exec, execNop, eq_comm] using h

theorem exec_clrstat_cases (h : exec .clrstat s = .next t) : t = s.clearStatus.quiet := by
  simpa [exec, execClrstat, eq_comm] using h

theorem exec_reservedC_cases {low : BitVec 12} (h : exec (.reservedC low) s = .next t) : t = s.badCmd := by
  simpa [exec, execReservedC, eq_comm] using h

theorem exec_reservedD_cases {low : BitVec 12} (h : exec (.reservedD low) s = .next t) : t = s.badCmd := by
  simpa [exec, execReservedD, eq_comm] using h

theorem exec_reservedE_cases {low : BitVec 12} (h : exec (.reservedE low) s = .next t) : t = s.badCmd := by
  simpa [exec, execReservedE, eq_comm] using h

theorem exec_reservedF_cases {low : BitVec 12} (h : exec (.reservedF low) s = .next t) : t = s.badCmd := by
  simpa [exec, execReservedF, eq_comm] using h

theorem exec_start_cases (h : exec .start s = .next t) :
    (s.life = .stopped ∧ t = { s with life := .idle }.out [.tStart] 0) ∨ (s.life ≠ .stopped ∧ t = s.ignored) := by
  cases hl : s.life <;> simp [exec, execStart, hl] at h <;> simp [h]

theorem exec_stop_cases (h : exec .stop s = .next t) :
    (s.life = .stopped ∧ t = s.quiet) ∨
    (s.life = .advertising ∧ t = { s.clearSeeds with life := .stopped, deadline := 0 }.out [.tAdvStop, .tStop] 0) ∨
    (s.life ≠ .stopped ∧ s.life ≠ .advertising ∧
      t = { s.clearSeeds with life := .stopped, deadline := 0 }.out [.tStop] 0) := by
  cases hl : s.life <;> simp [exec, execStop, hl] at h <;> simp [h]

theorem exec_advertise_cases (h : exec .advertise s = .next t) :
    (s.life = .idle ∧ t = s.enterAdvertising.out [.tAdvStart] 0) ∨ (s.life ≠ .idle ∧ t = s.ignored) := by
  cases hl : s.life <;> simp [exec, execAdvertise, hl] at h <;> simp [h]

theorem exec_linkUp_cases (h : exec .linkUp s = .next t) :
    (s.life = .advertising ∧ t = { s with life := .connected, deadline := 0 }.quiet) ∨
    (s.life ≠ .advertising ∧ t = s.ignored) := by
  cases hl : s.life <;> simp [exec, execLinkUp, hl] at h <;> simp [h]

theorem exec_linkDown_cases (h : exec .linkDown s = .next t) :
    (s.life = .connected ∧ t = { s with life := .idle }.quiet) ∨ (s.life ≠ .connected ∧ t = s.ignored) := by
  cases hl : s.life <;> simp [exec, execLinkDown, hl] at h <;> simp [h]

theorem exec_ctick_cases (h : exec .ctick s = .next t) :
    (s.life ≠ .advertising ∧ t = s.quiet) ∨
    (s.life = .advertising ∧ s.deadline = 1 ∧ t = { s with life := .idle, deadline := 0 }.out [.tAdvStop] 0) ∨
    (s.life = .advertising ∧ s.deadline ≠ 1 ∧ t = { s with deadline := s.deadline - 1 }.quiet) := by
  simp only [exec, execCtick] at h
  split at h
  · rename_i hl
    split at h
    · rename_i hd
      exact .inr (.inl ⟨hl, by bv_omega, by simpa [eq_comm] using h⟩)
    · rename_i hd
      exact .inr (.inr ⟨hl, by bv_omega, by simpa [eq_comm] using h⟩)
  · rename_i hl; exact .inl ⟨by simp [hl], by simpa [eq_comm] using h⟩
  · rename_i hl; exact .inl ⟨by simp [hl], by simpa [eq_comm] using h⟩
  · rename_i hl; exact .inl ⟨by simp [hl], by simpa [eq_comm] using h⟩

theorem exec_emit_cases (h : exec .emit s = .next t) :
    ((s.dirty = false ∨ s.life = .stopped ∨ s.life = .advertising) ∧ t = s.quiet) ∨
    (s.dirty = true ∧ s.life = .idle ∧ t = s.enterAdvertising.out [.tAdvStart] 2) ∨
    (s.dirty = true ∧ s.life = .connected ∧ s.ports.sendOk = true ∧
      t = { s with dirty := false, axisX := 0, axisY := 0 }.out [.tSend s.snapshot] 1) ∨
    (s.dirty = true ∧ s.life = .connected ∧ s.ports.sendOk = false ∧ t = s.out [.tSend s.snapshot] 0) := by
  cases hd : s.dirty
  · simp [exec, execEmit, hd] at h; simp [h]
  · cases hl : s.life <;> simp [exec, execEmit, hd, hl] at h
    · simp [h]
    · simp [h]
    · simp [h]
    · cases ho : s.ports.sendOk <;> simp [ho] at h <;> simp [h]

theorem exec_qdec_cases {ch : Nibble} {a b : Bool} (h : exec (.qdec ch a b) s = .next t) :
    (s.cfg.ne ≤ ch.toNat ∧ t = s.badCmd) ∨
    (ch.toNat < s.cfg.ne ∧ s.life = .stopped ∧ t = s.quiet) ∨
    (ch.toNat < s.cfg.ne ∧ s.life ≠ .stopped ∧
      let q := s.decodeStep ch.toNat (packCode a b)
      t = ({ s with
        qPrev := s.qPrev.set ch.toNat (packCode a b)
        qSeeded := s.qSeeded.set ch.toNat true
        encoders := s.encoders.set ch.toNat (s.accumulate ch.toNat q.delta) }.markDirty (q.delta != 0)).out []
          (BitVec.ofInt 16 q.delta)) := by
  simp only [exec, execQdec] at h
  split at h
  · exact .inl ⟨by omega, by simpa [eq_comm] using h⟩
  · split at h
    · rename_i hj hl; exact .inr (.inl ⟨by omega, hl, by simpa [eq_comm] using h⟩)
    · rename_i hj hl
      simp only [Host.Outcome.next.injEq] at h
      exact .inr (.inr ⟨by omega, hl, by simpa [State.decodeStep] using h.symm⟩)

theorem exec_dsamp_cases {ch : Nibble} {r : Bool} (h : exec (.dsamp ch r) s = .next t) :
    (s.cfg.nch ≤ ch.toNat ∧ t = s.badCmd) ∨
    (ch.toNat < s.cfg.nch ∧ s.life = .stopped ∧ t = s.quiet) ∨
    (ch.toNat < s.cfg.nch ∧ s.life ≠ .stopped ∧
      let d := s.debounceStep ch.toNat r
      let st := s.dbStable.set ch.toNat d.stable
      t = ((s.writeDigital st (s.dbCnt.set ch.toNat d.count)).markDirty (s.digitalChg st)).out []
        (symbol (s.cfg.channel ch.toNat) d.stable)) := by
  simp only [exec, execDsamp] at h
  split at h
  · exact .inl ⟨by omega, by simpa [eq_comm] using h⟩
  · split at h
    · rename_i hj hl; exact .inr (.inl ⟨by omega, hl, by simpa [eq_comm] using h⟩)
    · rename_i hj hl
      simp only [Host.Outcome.next.injEq] at h
      exact .inr (.inr ⟨by omega, hl, h.symm⟩)

theorem exec_poll_cases (h : exec .poll s = .next t) :
    (s.life = .stopped ∧ t = s.quiet) ∨
    (s.life ≠ .stopped ∧
      t = ({ s.writeDigital (s.pollDebounce.map Debounce.stable) (s.pollDebounce.map Debounce.count) with
        qPrev := s.pollDecode.map QStep.prev
        qSeeded := s.pollDecode.map QStep.seeded
        encoders := perChannel s.cfg.ne fun j => s.accumulate j (s.decodeStep j (s.pinCode j)).delta }.markDirty
          s.pollChg).out [] (bitWord s.pollChg)) := by
  simp only [exec, execPoll] at h
  split at h
  · rename_i hl; exact .inl ⟨hl, by simpa [eq_comm] using h⟩
  · rename_i hl
    simp only [Host.Outcome.next.injEq] at h
    exact .inr ⟨hl, h.symm⟩

/-- No command writes the configuration or what the environment has lined up. -/
theorem exec_keeps {i : Instr} (h : exec i s = .next t) : t.cfg = s.cfg ∧ t.inputs = s.inputs ∧ t.time = s.time := by
  cases i with
  | nop => simp [exec_nop_cases h]
  | clrstat => simp [exec_clrstat_cases h]
  | reservedC low => simp [exec_reservedC_cases h]
  | reservedD low => simp [exec_reservedD_cases h]
  | reservedE low => simp [exec_reservedE_cases h]
  | reservedF low => simp [exec_reservedF_cases h]
  | start => obtain ⟨-, rfl⟩ | ⟨-, rfl⟩ := exec_start_cases h <;> simp
  | stop => obtain ⟨-, rfl⟩ | ⟨-, rfl⟩ | ⟨-, -, rfl⟩ := exec_stop_cases h <;> simp
  | advertise => obtain ⟨-, rfl⟩ | ⟨-, rfl⟩ := exec_advertise_cases h <;> simp
  | linkUp => obtain ⟨-, rfl⟩ | ⟨-, rfl⟩ := exec_linkUp_cases h <;> simp
  | linkDown => obtain ⟨-, rfl⟩ | ⟨-, rfl⟩ := exec_linkDown_cases h <;> simp
  | ctick => obtain ⟨-, rfl⟩ | ⟨-, -, rfl⟩ | ⟨-, -, rfl⟩ := exec_ctick_cases h <;> simp
  | emit => obtain ⟨-, rfl⟩ | ⟨-, -, rfl⟩ | ⟨-, -, -, rfl⟩ | ⟨-, -, -, rfl⟩ := exec_emit_cases h <;> simp
  | qdec ch a b => obtain ⟨-, rfl⟩ | ⟨-, -, rfl⟩ | ⟨-, -, rfl⟩ := exec_qdec_cases h <;> simp
  | dsamp ch r => obtain ⟨-, rfl⟩ | ⟨-, -, rfl⟩ | ⟨-, -, rfl⟩ := exec_dsamp_cases h <;> simp
  | poll => obtain ⟨-, rfl⟩ | ⟨-, rfl⟩ := exec_poll_cases h <;> simp

/-! ### The mappings of a single channel -/

theorem keyMapping_getD (s : State) (st : List Bool) {i : Nat} (hi : i < s.cfg.nb) :
    (s.keyMapping st).getD i 0 =
      if (s.cfg.channel i).kind = .key then (if st.getD i false then (s.cfg.channel i).arg else 0) else s.button i :=
  perChannel_getD _ _ hi

/-- Only the stable levels of MOD channels reach `modifiers` (R66). -/
theorem modMapping_congr (cfg : Config) (st st' : List Bool)
    (h : ∀ c < cfg.nch, (cfg.channel c).kind = .mod → st.getD c false = st'.getD c false) :
    modMapping cfg st = modMapping cfg st' := by
  apply BitVec.eq_of_getLsbD_eq
  intro b hb
  rw [Bool.eq_iff_iff, modMapping_getLsbD _ _ _ hb, modMapping_getLsbD _ _ _ hb]
  constructor <;> rintro ⟨c, h1, h2, h3, h4⟩ <;> exact ⟨c, h1, h2, h3, by simp_all⟩

/-- In a step that samples channel `c` alone, the axis sum is what `c` contributes (R67, R70). -/
theorem axisSum_set (cfg : Config) (axis : Axis) (st : List Bool) (c : Nat) (v : Bool) (hc : c < cfg.nch)
    (hl : st.length = cfg.nch) :
    axisSum cfg axis st (st.set c v) = axisContribution cfg axis st (st.set c v) c := by
  have h : ∀ i ∈ List.range cfg.nch, axisContribution cfg axis st (st.set c v) i =
      if i = c then axisContribution cfg axis st (st.set c v) c else 0 := by
    intro i _
    by_cases e : i = c
    · subst e; simp
    · rw [if_neg e, axisContribution, if_neg]
      rw [getD_set _ _ _ _ _ (by omega), if_neg e]
      rintro ⟨-, -, h0, h1⟩
      simp_all
  unfold axisSum
  rw [List.map_congr_left h, ← Multiset.sum_coe, ← Multiset.map_coe]
  show (Multiset.map _ (Multiset.range cfg.nch)).sum = _
  rw [← Finset.range_val, ← Finset.sum_eq_multiset_sum, Finset.sum_ite_eq']
  simp [hc]

end Sys2Proof.Machine
end

