-- ==== Sys2Proof/Laws/PerInstr.lean ====
section
/-! SUPPORT. A statement made for every command, one lemma per constructor: the encoding is selected by the command's own
row of the opcode map (30_encoding.md R47). -/

namespace Sys2Proof.Laws.OwnRow

/-- The row of `i`'s mnemonic is in the opcode map and selects `i`'s word. -/
def Statement (i : Instr) : Prop := ∃ r ∈ opcodeMap, r.mnemonic = i.mnemonic ∧ r.selects (encode i) = true

/-- The four bits of a reserved operation code are all its mask looks at. -/
theorem reserved_and (op : Nibble) (low : BitVec 12) : (op ++ low : Word) &&& 0xF000#16 = op ++ 0#12 := by
  have h : 0xF000#16 = (0xF#4 ++ 0#12 : Word) := by decide
  have a : op &&& 0xF#4 = op := by revert op; decide
  rw [h, BitVec.and_append, a]
  simp

theorem nop : Statement .nop := ⟨⟨"NOP", 0x0000, 0xFFFF⟩, by decide, by decide, by decide⟩
theorem poll : Statement .poll := ⟨⟨"POLL", 0x1000, 0xFFFF⟩, by decide, by decide, by decide⟩
theorem qdec (ch : Nibble) (a b : Bool) : Statement (.qdec ch a b) :=
  ⟨⟨"QDEC", 0x2000, 0xF0FC⟩, by decide, by simp [Instr.mnemonic], by revert ch a b; decide⟩
theorem dsamp (ch : Nibble) (r : Bool) : Statement (.dsamp ch r) :=
  ⟨⟨"DSAMP", 0x3000, 0xF0FE⟩, by decide, by simp [Instr.mnemonic], by revert ch r; decide⟩
theorem emit : Statement .emit := ⟨⟨"EMIT", 0x4000, 0xFFFF⟩, by decide, by decide, by decide⟩
theorem ctick : Statement .ctick := ⟨⟨"CTICK", 0x5000, 0xFFFF⟩, by decide, by decide, by decide⟩
theorem start : Statement .start := ⟨⟨"START", 0x6000, 0xFFFF⟩, by decide, by decide, by decide⟩
theorem stop : Statement .stop := ⟨⟨"STOP", 0x7000, 0xFFFF⟩, by decide, by decide, by decide⟩
theorem advertise : Statement .advertise := ⟨⟨"ADVERTISE", 0x8000, 0xFFFF⟩, by decide, by decide, by decide⟩
theorem linkUp : Statement .linkUp := ⟨⟨"LINK_UP", 0x9000, 0xFFFF⟩, by decide, by decide, by decide⟩
theorem linkDown : Statement .linkDown := ⟨⟨"LINK_DOWN", 0xA000, 0xFFFF⟩, by decide, by decide, by decide⟩
theorem clrstat : Statement .clrstat := ⟨⟨"CLRSTAT", 0xB000, 0xFFFF⟩, by decide, by decide, by decide⟩
theorem reservedC (low : BitVec 12) : Statement (.reservedC low) :=
  ⟨⟨"RESERVED_C", 0xC000, 0xF000⟩, by decide, rfl, by
    show ((0xC#4 ++ low : Word) &&& 0xF000#16 == 0xC000#16) = true
    rw [reserved_and]
    decide⟩
theorem reservedD (low : BitVec 12) : Statement (.reservedD low) :=
  ⟨⟨"RESERVED_D", 0xD000, 0xF000⟩, by decide, rfl, by
    show ((0xD#4 ++ low : Word) &&& 0xF000#16 == 0xD000#16) = true
    rw [reserved_and]
    decide⟩
theorem reservedE (low : BitVec 12) : Statement (.reservedE low) :=
  ⟨⟨"RESERVED_E", 0xE000, 0xF000⟩, by decide, rfl, by
    show ((0xE#4 ++ low : Word) &&& 0xF000#16 == 0xE000#16) = true
    rw [reserved_and]
    decide⟩
theorem reservedF (low : BitVec 12) : Statement (.reservedF low) :=
  ⟨⟨"RESERVED_F", 0xF000, 0xF000⟩, by decide, rfl, by
    show ((0xF#4 ++ low : Word) &&& 0xF000#16 == 0xF000#16) = true
    rw [reserved_and]
    decide⟩

end Sys2Proof.Laws.OwnRow
end

