-- ==== Sys2Proof/Machine/Assembler.lean ====
section
/-! DEFINITION. Assembler lines and their port annotations (30_encoding.md R52, R53), as the environment's command
stream. The lexical form of a line (case, blanks, comments) is text and is not modelled. -/

namespace Sys2Proof.Machine

/-- One assembler line. -/
inductive AsmLine
  /-- A command without annotation. -/
  | plain (i : Instr)
  /-- `POLL` with the port values of its step; an omitted port keeps the previous vector's value. -/
  | poll (raw a b : Option (BitVec 16))
  /-- `EMIT` with its `ok` annotation. -/
  | emit (ok : Bool)
  /-- `.word`: any 16-bit word, including reserved and malformed ones. -/
  | word (w : Word)
  /-- The pseudo-instruction TICK. -/
  | tick
  deriving DecidableEq, Repr

/-- The port sample of a command word: the pins as in the sample before, `ok=1` by default. -/
def PortSample.next (prev : PortSample) (w : Word) : PortSample := { prev with rst := false, cmd := w, sendOk := true }

/-- The port samples of one line, after the sample `prev`. -/
def AsmLine.samples (prev : PortSample) : AsmLine → List PortSample
  | .plain i => [prev.next (encode i)]
  | .poll raw a b =>
    [{ prev.next (encode .poll) with
      rawDig := raw.getD prev.rawDig, encA := a.getD prev.encA, encB := b.getD prev.encB }]
  | .emit ok => [{ prev.next (encode .emit) with sendOk := ok }]
  | .word w => [prev.next w]
  | .tick => Instr.tick.map fun i => prev.next (encode i)

/-- The port samples of a sequence of lines: what the environment lines up in `inputs`. -/
def assemble (prev : PortSample) : List AsmLine → List PortSample
  | [] => []
  | line :: lines =>
    let ps := line.samples prev
    ps ++ assemble (ps.getLastD prev) lines

/-- The text of a command (R52): the mnemonic, then its operands in decimal; `.word` for a reserved word. -/
def asmText : Instr → String
  | .qdec ch a b => "QDEC " ++ toString ch.toNat ++ ", " ++ toString a.toNat ++ ", " ++ toString b.toNat
  | .dsamp ch r => "DSAMP " ++ toString ch.toNat ++ ", " ++ toString r.toNat
  | .reservedC low => ".word 0x" ++ (encode (.reservedC low)).toHex
  | .reservedD low => ".word 0x" ++ (encode (.reservedD low)).toHex
  | .reservedE low => ".word 0x" ++ (encode (.reservedE low)).toHex
  | .reservedF low => ".word 0x" ++ (encode (.reservedF low)).toHex
  | .nop => "NOP"
  | .poll => "POLL"
  | .emit => "EMIT"
  | .ctick => "CTICK"
  | .start => "START"
  | .stop => "STOP"
  | .advertise => "ADVERTISE"
  | .linkUp => "LINK_UP"
  | .linkDown => "LINK_DOWN"
  | .clrstat => "CLRSTAT"

end Sys2Proof.Machine
end

