-- ==== Sys2Proof/Tests/Slice0.lean ====
section
/-! SUPPORT. Tests: words written out from the encodings, one-step vectors of 95_test_vectors.md, ill-formed terms for each
check, and for every statement with hypotheses a state and operands that meet them all. -/

namespace Sys2Proof.Tests

open Sys2Proof.Machine

/-! ## Helpers -/

/-- Nothing pressed, both encoders at 00, the transport accepts. -/
def sample (w : Word) : PortSample := { rst := false, cmd := w, rawDig := 0x3F, encA := 0, encB := 0, sendOk := true }

/-- CFG-D right after reset, but in `l`, with `w` on the command port. -/
def inLife (l : Life) (w : Word) : State :=
  { State.reset with life := l, deadline := if l = .advertising then 17 else 0, inputs := [sample w] }

/-- The same in IDLE with encoder 0 seeded at `p`. -/
def seededAt (p : Code) (w : Word) : State := { inLife .idle w with qPrev := [p, 0], qSeeded := [true, false] }

/-- CFG-M of 95_test_vectors.md. -/
def cfgM : Config :=
  { Config.default with
    nb := 4, nch := 8, ne := 1, debounceK := 1, axisStep := 100
    chcfg := [⟨.key, 4, .activeLow⟩, ⟨.key, 5, .activeLow⟩, ⟨.key, 6, .activeLow⟩, ⟨.key, 7, .activeLow⟩] ++
      [⟨.mod, 1, .activeLow⟩, ⟨.mod, 1, .activeHigh⟩, ⟨.axis, 0, .activeHigh⟩, ⟨.axis, 3, .activeHigh⟩] }

/-- CFG-M in IDLE, the pins at `raw`. -/
def onM (raw : BitVec 16) (w : Word) : State :=
  { State.resetFor cfgM with life := .idle, inputs := [{ sample w with rawDig := raw }] }

def goesOn (o : Host.Outcome State Fault Refusal) : Bool :=
  match o with
  | .next _ => true
  | .fault _ => false
  | .refused _ => false

def nextOr (s : State) (o : Host.Outcome State Fault Refusal) : State :=
  match o with
  | .next t => t
  | .fault _ => s
  | .refused _ => s

/-- The state after one step. -/
def after (s : State) : State := nextOr s (step s)

/-- The state after one command. -/
def ran (i : Instr) (s : State) : State := nextOr s (exec i s)

theorem step_after {s : State} (h : goesOn (step s) = true) : step s = .next (after s) := by
  unfold after
  cases hs : step s <;> simp_all [goesOn, nextOr]

theorem exec_ran (i : Instr) (s : State) : exec i s = .next (ran i s) := by
  obtain ⟨t, ht⟩ := exec_completes i s
  simp [ran, ht, nextOr]

theorem inLife_inv (l : Life) (w : Word) : (inLife l w).Inv where
  config := show Config.default.wf = true by decide
  shape := ⟨rfl, rfl, rfl, rfl, rfl, rfl⟩
  buttons := show ∀ i < 6, State.reset.button i =
    if (Config.default.channel i).kind = .key ∧ State.reset.stable i = true then (Config.default.channel i).arg else 0 by
    decide
  modifiers := show (0 : Byte) = modMapping Config.default State.reset.dbStable by decide
  encoders := show ∀ j < 2, State.reset.encoder j = wrapEnc 16 (State.reset.encoder j).toInt by decide
  axes := fun _ => ⟨rfl, rfl⟩
  counts := show ∀ c < 6, (State.reset.count c).toNat < 2 by decide
  deadline := by
    cases l
    case advertising => exact ⟨fun _ => show 1 ≤ (17 : Word).toNat ∧ (17 : Word).toNat ≤ 600 by decide, fun h => absurd rfl h⟩
    all_goals exact ⟨nofun, fun _ => rfl⟩
  unseeded := fun _ => show ∀ j < 2, State.reset.seeded j = false by decide

theorem seededAt_inv (p : Code) (w : Word) : (seededAt p w).Inv :=
  { inLife_inv .idle w with shape := ⟨rfl, rfl, rfl, rfl, rfl, rfl⟩, unseeded := nofun }

theorem onM_inv (raw : BitVec 16) (w : Word) : (onM raw w).Inv where
  config := show cfgM.wf = true by decide
  shape := ⟨rfl, rfl, rfl, rfl, rfl, rfl⟩
  buttons := show ∀ i < 4, (State.resetFor cfgM).button i =
    if (cfgM.channel i).kind = .key ∧ (State.resetFor cfgM).stable i = true then (cfgM.channel i).arg else 0 by decide
  modifiers := show (0 : Byte) = modMapping cfgM (State.resetFor cfgM).dbStable by decide
  encoders := show ∀ j < 1, (State.resetFor cfgM).encoder j = wrapEnc 16 ((State.resetFor cfgM).encoder j).toInt by decide
  axes := fun _ => ⟨rfl, rfl⟩
  counts := show ∀ c < 8, ((State.resetFor cfgM).count c).toNat < 1 by decide
  deadline := ⟨nofun, fun _ => rfl⟩
  unseeded := nofun

/-! ## Decoding: words written out bit by bit (30_encoding.md R47; 95_test_vectors.md E-1 to E-16) -/

theorem test_decode_nop : decode 0b0000000000000000 = .ok .nop := by decide
theorem test_decode_poll : decode 0b0001000000000000 = .ok .poll := by decide
theorem test_decode_qdec : decode 0b0010000100000010 = .ok (.qdec 1 true false) := by decide
theorem test_decode_dsamp : decode 0b0011010100000001 = .ok (.dsamp 5 true) := by decide
theorem test_decode_emit : decode 0b0100000000000000 = .ok .emit := by decide
theorem test_decode_ctick : decode 0b0101000000000000 = .ok .ctick := by decide
theorem test_decode_start : decode 0b0110000000000000 = .ok .start := by decide
theorem test_decode_stop : decode 0b0111000000000000 = .ok .stop := by decide
theorem test_decode_advertise : decode 0b1000000000000000 = .ok .advertise := by decide
theorem test_decode_linkUp : decode 0b1001000000000000 = .ok .linkUp := by decide
theorem test_decode_linkDown : decode 0b1010000000000000 = .ok .linkDown := by decide
theorem test_decode_clrstat : decode 0b1011000000000000 = .ok .clrstat := by decide
theorem test_decode_reserved :
    decode 0b1100000000000000 = .ok (.reservedC 0) ∧ decode 0b1101000100100011 = .ok (.reservedD 0x123) ∧
    decode 0b1110000000000001 = .ok (.reservedE 1) ∧ decode 0b1111111111111111 = .ok (.reservedF 0xFFF) := by decide
theorem test_decode_malformed :
    decode 0x0001 = .error .dataNotZero ∧ decode 0x1100 = .error .channelNotZero ∧
    decode 0x2104 = .error .dataNotZero ∧ decode 0x3502 = .error .dataNotZero ∧
    decode 0x4080 = .error .dataNotZero ∧ decode 0x6001 = .error .dataNotZero := by decide

/-! ## Ill-formed terms, one for each check (00_scope.md R8; 30_encoding.md R48) -/

theorem test_wf_default : Config.default.wf = true ∧ cfgM.wf = true := by decide
theorem test_wf_counts :
    ({ Config.default with nb := 0 } : Config).wf = false ∧ ({ Config.default with nb := 7 } : Config).wf = false ∧
    ({ Config.default with nch := 17 } : Config).wf = false ∧ ({ Config.default with ne := 0 } : Config).wf = false ∧
    ({ Config.default with ne := 17 } : Config).wf = false := by decide
theorem test_wf_key_channels :
    ({ Config.default with nb := 5 } : Config).wf = false ∧
    ({ Config.default with chcfg := [⟨.key, 0, .activeLow⟩] } : Config).wf = false := by decide
theorem test_wf_mod_channels : ({ Config.default with chcfg := [⟨.mod, 8, .activeLow⟩] } : Config).wf = false := by decide
theorem test_wf_axis_channels : ({ Config.default with chcfg := [⟨.axis, 4, .activeLow⟩] } : Config).wf = false := by
  decide
theorem test_wf_debounce :
    ({ Config.default with debounceK := 0 } : Config).wf = false ∧
    ({ Config.default with debounceK := 16 } : Config).wf = false := by decide
theorem test_wf_timeout :
    ({ Config.default with advTimeoutTicks := 0 } : Config).wf = false ∧
    ({ Config.default with advTimeoutTicks := 65536 } : Config).wf = false := by decide
theorem test_wf_enc_width :
    ({ Config.default with encW := 7 } : Config).wf = false ∧ ({ Config.default with encW := 17 } : Config).wf = false := by
  decide
theorem test_wf_axis_step :
    ({ Config.default with axisStep := 0 } : Config).wf = false ∧
    ({ Config.default with axisStep := 128 } : Config).wf = false := by decide
theorem test_wf_channel_operand :
    (Instr.qdec 2 false false).wf Config.default = false ∧ (Instr.qdec 1 false false).wf Config.default = true ∧
    (Instr.dsamp 6 false).wf Config.default = false ∧ (Instr.dsamp 5 false).wf Config.default = true := by decide

/-! ## One-step vectors (95_test_vectors.md) -/

/-- Q-4: 01 → 00 is −1. -/
theorem test_qdec_reverse :
    (after (seededAt 0b01 0x2000)).resp = 0xFFFF ∧ (after (seededAt 0b01 0x2000)).encoder 0 = 0xFFFF := by decide
/-- Q-18: ENC_W = 8 wraps at 127 and reads sign-extended. -/
theorem test_qdec_wrap :
    (after { seededAt 0b00 0x2001 with
      cfg := { Config.default with encW := 8 }, encoders := [127, 0] }).readPort 0x20 = 0xFF80 := by decide
/-- R69's example, second POLL. -/
theorem test_poll_accepts :
    (after { inLife .idle 0x1000 with
      dbCnt := [1, 0, 0, 0, 0, 0], inputs := [{ sample 0x1000 with rawDig := 0b111110 }] }).button 0 = 0x04 := by decide
/-- A-7: two axes in one POLL, y saturates at −128. -/
theorem test_poll_axes :
    (after { onM 0xDF 0x1000 with axisX := 127, axisY := -100 }).readPort 0x03 = 0x807F := by decide
/-- PL-6: the second active sample of channel 2. -/
theorem test_dsamp_key :
    (after { inLife .idle 0x3200 with dbCnt := [0, 0, 1, 0, 0, 0] }).resp = 0x0006 ∧
    (after { inLife .idle 0x3200 with dbCnt := [0, 0, 1, 0, 0, 0] }).button 2 = 0x06 := by decide
/-- DSAMP 7,1 on CFG-M: response −1. -/
theorem test_dsamp_axis : (after (onM 0x1F 0x3701)).resp = 0xFFFF ∧ (after (onM 0x1F 0x3701)).axisY = -100 := by decide
/-- EM-6 and EM-7: accepted and failed send. -/
theorem test_emit_accepted :
    (after { inLife .connected 0x4000 with dirty := true, axisX := 5 }).axisX = 0 ∧
    (after { inLife .connected 0x4000 with dirty := true, axisX := 5 }).dirty = false := by decide
theorem test_emit_failed :
    (after { inLife .connected 0x4000 with
      dirty := true, axisX := 5, inputs := [{ sample 0x4000 with sendOk := false }] }).axisX = 5 := by decide
/-- LC-7. -/
theorem test_stop_events : (after (inLife .advertising 0x7000)).events = [.tAdvStop, .tStop] := by decide
/-- LC-2 and LC-11. -/
theorem test_ignored :
    (after (inLife .idle 0x6000)).status = 0x0011 ∧ (after (inLife .advertising 0x8000)).status = 0x0012 := by decide
/-- LC-1, LC-10, LC-15, LC-20. -/
theorem test_transitions :
    (after (inLife .stopped 0x6000)).status = 0x0001 ∧ (after (inLife .idle 0x8000)).deadline = 600 ∧
    (after (inLife .advertising 0x9000)).status = 0x0003 ∧ (after (inLife .connected 0xA000)).status = 0x0001 := by decide
/-- LC-23. -/
theorem test_ctick_timeout :
    (after { inLife .advertising 0x5000 with deadline := 1 }).events = [.tAdvStop] ∧
    (after { inLife .advertising 0x5000 with deadline := 1 }).life = .idle := by decide
/-- CT-2. -/
theorem test_clrstat :
    (after { inLife .idle 0xB000 with dirty := true, statusBadcmd := true, statusIgn := true }).status = 0x0005 := by
  decide
/-- E-17, E-18: BadCmd in STOPPED. -/
theorem test_badcmd_stopped :
    (after (inLife .stopped 0x2F03)).status = 0x0008 ∧ (after (inLife .stopped 0xC000)).status = 0x0008 := by decide
/-- R52, R53: an assembler sequence and the words it lines up. -/
theorem test_assemble :
    (assemble (sample 0) [.plain .start, .poll (some 0x3E) none none, .tick, .word 0xC000]).map PortSample.cmd =
      [0x6000, 0x1000, 0x1000, 0x4000, 0x5000, 0xC000] ∧
    (assemble (sample 0) [.poll (some 0x3E) none none, .emit false]).map PortSample.rawDig = [0x3E, 0x3E] := by decide
/-- R52: the operands in the order ch, a, b. -/
theorem test_asmText : asmText (.qdec 15 true false) = "QDEC 15, 1, 0" := by decide
/-- A word put on the command port of the reset state is the command the next step runs. -/
theorem test_withFetchWord :
    (after (State.reset.withFetchWord 16 0x6000)).life = .idle ∧
    decodeTableWord 16 0x2103 = some (.qdec 1 true true) := by decide

/-! ## Witnesses: for every statement with hypotheses, terms that meet them all -/

theorem witness_DecodedWordIsTheEncoding : ∃ w i, decode w = .ok i ∧ i = .qdec 15 true true :=
  ⟨0x2F03, _, by decide, rfl⟩

theorem witness_OpcodeRowsSelectWords :
    ∃ r ∈ opcodeMap, r.selects 0x2F03 = true ∧ (∀ r ∈ opcodeMap, r.selects 0x2F04 = false) :=
  ⟨⟨"QDEC", 0x2000, 0xF0FC⟩, by decide, by decide, by decide⟩

theorem witness_StepRunsDecodedCommand :
    ∃ s i t, s.cfg.wf = true ∧ s.ports.rst = false ∧ decode s.ports.cmd = .ok i ∧ exec i s = .next t :=
  ⟨inLife .stopped 0x6000, .start, _, by decide, by decide, by decide, exec_ran _ _⟩

theorem witness_FetchedWordRunsNext : ∃ (s : State) (w : Word) (i : Instr), s.cfg.wf = true ∧ decode w = .ok i :=
  ⟨State.reset, 0xFFFF, .reservedF 0xFFF, by decide, by decide⟩

/-- The four kinds of bad word, each at the edge of its range. -/
theorem witness_BadWordOnlySetsBadcmd :
    ((inLife .stopped 0xC000).cfg.wf = true ∧ (inLife .stopped 0xC000).ports.rst = false) ∧
    12 ≤ (inLife .stopped 0xC000).ports.cmd.toNat / 2 ^ 12 ∧ 12 ≤ (inLife .idle 0xFFFF).ports.cmd.toNat / 2 ^ 12 ∧
    (∀ r ∈ opcodeMap, r.selects (inLife .idle 0xBFFF).ports.cmd = false) ∧
    ((inLife .idle 0x2200).ports.cmd = encode (.qdec 2 false false) ∧ (inLife .idle 0x2200).cfg.ne ≤ (2#4).toNat) ∧
    ((inLife .idle 0x3601).ports.cmd = encode (.dsamp 6 true) ∧ (inLife .idle 0x3601).cfg.nch ≤ (6#4).toNat) := by decide

theorem witness_ReservedAndOutOfRangeCommands :
    State.reset.cfg.ne ≤ (2#4).toNat ∧ State.reset.cfg.nch ≤ (6#4).toNat := by decide

theorem witness_StickyBitsStay :
    ∃ s t, step s = .next t ∧ s.ports.rst = false ∧ s.ports.cmd ≠ 0xB000 ∧ s.statusBadcmd = true ∧ s.statusIgn = true :=
  ⟨{ inLife .idle 0xB001 with statusBadcmd := true, statusIgn := true }, _, step_after (by decide), by decide, by decide,
    rfl, rfl⟩

/-- Each of the four ignored commands, and a step that sets IGN. -/
theorem witness_IgnoredCommands :
    ((inLife .idle 0x6000).cfg.wf = true ∧ (inLife .idle 0x6000).ports.rst = false ∧
      (inLife .idle 0x6000).life ≠ .stopped) ∧
    (inLife .stopped 0x8000).life ≠ .idle ∧ (inLife .idle 0x9000).life ≠ .advertising ∧
    (inLife .stopped 0xA000).life ≠ .connected ∧
    ∃ t, step (inLife .idle 0x6000) = .next t ∧ (inLife .idle 0x6000).statusIgn = false ∧ t.statusIgn = true :=
  ⟨by decide, by decide, by decide, by decide, _, step_after (by decide), by decide, by decide⟩

theorem witness_DutifulNotificationsAreTracked :
    (inLife .advertising 0x9000).transportDuty .linkUp ∧ (inLife .connected 0xA000).transportDuty .linkDown :=
  ⟨⟨fun _ => rfl, nofun⟩, ⟨nofun, fun _ => rfl⟩⟩

theorem witness_BlockNeverHalts : ∃ s : State, s.cfg.wf = true := ⟨State.reset, by decide⟩

theorem witness_OnlyIllFormedConfigsAreRefused :
    goesOn (step (inLife .idle 0)) = true ∧
    goesOn (step { inLife .idle 0 with cfg := { Config.default with nb := 7 } }) = false := by decide

theorem witness_ResetStepSetsEveryField : ∃ s : State, s.cfg.wf = true ∧ s.ports.rst = true ∧ s.dirty = true :=
  ⟨{ inLife .connected 0 with dirty := true, inputs := [{ sample 0 with rst := true }] }, by decide, by decide, rfl⟩

theorem witness_ParametersNeverChange : ∃ s t, step s = .next t := ⟨inLife .idle 0x8000, _, step_after (by decide)⟩

theorem witness_OneErrorPerCommand : ∃ s t, step s = .next t ∧ t.statusBadcmd = true ∧ s.statusBadcmd = false :=
  ⟨inLife .idle 0xFFFF, _, step_after (by decide), by decide, rfl⟩

theorem witness_EveryStepKeepsTheInvariant : ∃ s t : State, s.Inv ∧ step s = .next t ∧ t.dirty = true :=
  ⟨onM 0x5F 0x1000, _, onM_inv _ _, step_after (by decide), by decide⟩

theorem witness_ResetMeetsTheInvariant : cfgM.wf = true := by decide

theorem witness_DeadlineRunsOnlyWhileAdvertising :
    ∃ s t : State, s.DeadlineInv ∧ step s = .next t ∧ t.deadline = 16 :=
  ⟨inLife .advertising 0x5000, _, (inLife_inv _ _).deadline, step_after (by decide), by decide⟩

/-- A step that writes each field. -/
theorem witness_FieldsHaveOnlyTheirWriters :
    goesOn (step (onM 0x1E 0x1000)) = true ∧ (onM 0x1E 0x1000).ports.rst = false ∧
    (after (onM 0x1E 0x1000)).buttons ≠ (onM 0x1E 0x1000).buttons ∧
    (after (onM 0x0F 0x1000)).modifiers ≠ (onM 0x0F 0x1000).modifiers ∧
    (after (seededAt 0 0x2001)).encoders ≠ (seededAt 0 0x2001).encoders ∧
    (after (onM 0x5F 0x1000)).axisX ≠ (onM 0x5F 0x1000).axisX ∧
    (after (onM 0x9F 0x1000)).axisY ≠ (onM 0x9F 0x1000).axisY ∧
    (after (seededAt 0 0x2001)).dirty ≠ (seededAt 0 0x2001).dirty ∧
    (after (inLife .idle 0x7000)).life ≠ (inLife .idle 0x7000).life ∧
    (after (inLife .idle 0x8000)).deadline ≠ (inLife .idle 0x8000).deadline ∧
    (after (seededAt 0 0x2003)).qPrev ≠ (seededAt 0 0x2003).qPrev ∧
    (after (seededAt 0 0x7000)).qSeeded ≠ (seededAt 0 0x7000).qSeeded ∧
    (after (onM 0x1E 0x1000)).dbStable ≠ (onM 0x1E 0x1000).dbStable ∧
    (after (inLife .idle 0x3000)).dbCnt ≠ (inLife .idle 0x3000).dbCnt ∧
    (after (inLife .idle 0x0001)).statusBadcmd ≠ (inLife .idle 0x0001).statusBadcmd ∧
    (after (inLife .idle 0x6000)).statusIgn ≠ (inLife .idle 0x6000).statusIgn := by decide

theorem witness_StoppedBlockStandsStill :
    ∃ s t, step s = .next t ∧ s.ports.rst = false ∧ s.life = .stopped ∧ s.ports.cmd ≠ 0x6000 :=
  ⟨inLife .stopped 0x1000, _, step_after (by decide), by decide, rfl, by decide⟩

theorem witness_EventsOfOneStep : ∃ s t, step s = .next t ∧ t.events = [.tAdvStop, .tStop] :=
  ⟨inLife .advertising 0x7000, _, step_after (by decide), by decide⟩

/-- Pins above the last channel differ for POLL; `send_ok` stays for EMIT; everything differs for START. -/
theorem witness_PortsReachOnlyTheirCommands :
    let s := { inLife .connected 0x4000 with dirty := true }
    let far := [{ sample 0 with rawDig := 0xFFFF, encA := 0xFFFC, encB := 0xFFFC }]
    let s' := { s with inputs := far, time := 7 }
    (∃ t, exec .poll s = .next t) ∧ (∀ c < 6, s'.rawPin c = s.rawPin c) ∧ (∀ j < 2, s'.pinCode j = s.pinCode j) ∧
    s.life = .connected ∧ s.dirty = true ∧ s'.ports.sendOk = s.ports.sendOk :=
  ⟨⟨_, exec_ran _ _⟩, by decide, by decide, rfl, rfl, rfl⟩

theorem witness_QdecDecodesOneSample :
    ∃ (s : State) (ch : Nibble), s.Shape ∧ ch.toNat < s.cfg.ne ∧ s.life ≠ .stopped ∧ s.seeded ch.toNat = false :=
  ⟨seededAt 0 0, 1, (seededAt_inv 0 0).shape, by decide, by decide, by decide⟩

/-- An unseeded channel, and a repeated code. -/
theorem witness_SeedAndRepeatGiveNoDelta :
    (seededAt 0 0).Inv ∧ (1#4).toNat < (seededAt 0 0).cfg.ne ∧ (seededAt 0 0).life ≠ .stopped ∧
    (seededAt 0 0).seeded 1 = false ∧ (seededAt 0 0).prevCode 0 = packCode false false :=
  ⟨seededAt_inv 0 0, by decide, by decide, by decide, by decide⟩

/-- A forward, a reverse and a non-adjacent transition in GRAY mode. -/
theorem witness_GrayTransitions :
    (seededAt 0b10 0).Shape ∧ (0#4).toNat < (seededAt 0b10 0).cfg.ne ∧ (seededAt 0b10 0).life ≠ .stopped ∧
    (seededAt 0b10 0).cfg.qdecMode = .gray ∧ (seededAt 0b10 0).seeded 0 = true ∧
    packCode false false = graySucc ((seededAt 0b10 0).prevCode 0) ∧
    (seededAt 0b10 0).prevCode 0 = graySucc (packCode true true) ∧
    (packCode false true ≠ graySucc ((seededAt 0b10 0).prevCode 0) ∧
      (seededAt 0b10 0).prevCode 0 ≠ graySucc (packCode false true)) :=
  ⟨(seededAt_inv _ 0).shape, by decide, by decide, by decide, by decide, by decide, by decide, by decide⟩

theorem witness_SourceModeTransitions :
    let s := { seededAt 0b11 0 with cfg := { Config.default with qdecMode := .source0110 } }
    s.Shape ∧ (0#4).toNat < s.cfg.ne ∧ s.life ≠ .stopped ∧ s.cfg.qdecMode = .source0110 ∧ s.seeded 0 = true ∧
    s.prevCode 0 ≠ packCode false true ∧ s.prevCode 0 ≠ packCode true false ∧ s.prevCode 0 ≠ packCode false false :=
  ⟨⟨rfl, rfl, rfl, rfl, rfl, rfl⟩, by decide, by decide, by decide, by decide, by decide, by decide, by decide⟩

/-- Both wraps and the plain sum (Q-16, Q-17). -/
theorem witness_AccumulatorWrapsAtItsWidth :
    (seededAt 0 0).Inv ∧ (0 : Nat) < (seededAt 0 0).cfg.ne ∧
    ({ seededAt 0 0 with encoders := [0x7FFF, 0] } : State).accumulate 0 1 = 0x8000 ∧
    ({ seededAt 0 0 with encoders := [0x8000, 0] } : State).accumulate 0 (-1) = 0x7FFF ∧
    (seededAt 0 0).accumulate 0 1 = 1 :=
  ⟨seededAt_inv 0 0, by decide, by decide, by decide, by decide⟩

theorem witness_OnlyAdjacentCodesCount :
    ∃ (s t : State), s.Inv ∧ s.cfg.qdecMode = .gray ∧ step s = .next t ∧ s.ports.rst = false ∧
      t.encoder 0 ≠ s.encoder 0 :=
  ⟨seededAt 0 0x2001, _, seededAt_inv _ _, by decide, step_after (by decide), by decide, by decide⟩

/-- A seed, a repeated code and a full forward cycle (Scenario B). -/
theorem witness_FullySampledCountTracksPosition :
    List.IsChain (fun c c' => c' = c ∨ grayAdjacent c c') [(0b00 : Code), 0b00, 0b01, 0b11, 0b10, 0b00] := by
  simp only [List.isChain_cons_cons, grayAdjacent]
  decide

/-- K at both ends of its range (DB-5, DB-8). -/
theorem witness_KthConsecutiveSampleIsAccepted :
    debounceRun 1 ⟨false, 0⟩ (List.replicate 1 true) = ⟨true, 0⟩ ∧
    debounceRun 15 ⟨false, 0⟩ (List.replicate 14 true) = ⟨false, 14⟩ ∧
    debounceRun 15 ⟨false, 0⟩ (List.replicate 15 true) = ⟨true, 0⟩ := by decide

/-- PL-4's bounce: 1, 0, 1 with K = 2. -/
theorem witness_ShortBounceIsFiltered : ¬ List.replicate 2 (!false) <:+: [true, false, true] := by decide

theorem witness_PollSamplesEveryChannel : ∃ s : State, s.life ≠ .stopped := ⟨onM 0x5F 0x1000, by decide⟩

/-- A POLL with a change, and one without. -/
theorem witness_PollReportsChange :
    (onM 0x5F 0x1000).life ≠ .stopped ∧ exec .poll (onM 0x5F 0x1000) = .next (ran .poll (onM 0x5F 0x1000)) ∧
    axisSum cfgM .x (onM 0x5F 0x1000).dbStable (ran .poll (onM 0x5F 0x1000)).dbStable ≠ 0 ∧
    (ran .poll (onM 0x1F 0x1000)).resp = 0 :=
  ⟨by decide, exec_ran _ _, by decide, by decide⟩

theorem witness_PollOfUnchangedInputs :
    let s := { seededAt 0 0x1000 with qSeeded := [true, true] }
    s.Inv ∧ s.life ≠ .stopped ∧ (∀ c < 6, level (s.cfg.channel c).pol (s.rawPin c) = s.stable c) ∧
    (∀ j < 2, s.seeded j = true ∧ s.pinCode j = s.prevCode j) :=
  let h := seededAt_inv 0 0x1000
  ⟨⟨h.config, ⟨rfl, rfl, rfl, rfl, rfl, rfl⟩, h.buttons, h.modifiers, h.encoders, h.axes, h.counts, h.deadline, nofun⟩,
    by decide, by decide, by decide⟩

/-- A channel of each kind in range on CFG-M, the last channel among them. -/
theorem witness_DsampSamplesOneChannel :
    (onM 0x1F 0).Inv ∧ (7#4).toNat < (onM 0x1F 0).cfg.nch ∧ (onM 0x1F 0).life ≠ .stopped ∧
    (cfgM.channel 3).kind = .key ∧ (cfgM.channel 5).kind = .mod ∧ (cfgM.channel 7).kind = .axis :=
  ⟨onM_inv _ _, by decide, by decide, by decide, by decide, by decide⟩

theorem witness_SampleOrderOfTwoChannels :
    (onM 0x1F 0).Inv ∧ (0#4) ≠ 3#4 ∧ (0#4).toNat < (onM 0x1F 0).cfg.nch ∧ (3#4).toNat < (onM 0x1F 0).cfg.nch ∧
    (cfgM.channel 0).kind = .key ∧ (cfgM.channel 3).kind = .key :=
  ⟨onM_inv _ _, by decide, by decide, by decide, by decide, by decide⟩

theorem witness_DutiesRestInStopped :
    State.reset.life = .stopped ∧ (1#4).toNat < State.reset.cfg.ne ∧ (5#4).toNat < State.reset.cfg.nch := by decide

/-- A state in each `life`. -/
theorem witness_LifecycleMatrix : ∀ l : Life, (inLife l 0).DeadlineInv ∧ (inLife l 0).life = l :=
  fun l => ⟨(inLife_inv l 0).deadline, rfl⟩

/-- Each way into and out of a state. -/
theorem witness_LifecycleEntriesAndExits :
    (∀ l w, (inLife l w).DeadlineInv) ∧ goesOn (step (inLife .idle 0x8000)) = true ∧
    (after (inLife .idle 0x8000)).life = .advertising ∧ (after (inLife .idle 0x7000)).life = .stopped ∧
    (after { inLife .idle 0x4000 with dirty := true }).life = .advertising ∧
    (after { inLife .advertising 0x5000 with deadline := 1 }).life = .idle ∧
    (after (inLife .advertising 0x9000)).life = .connected ∧ (after (inLife .advertising 0x7000)).life = .stopped ∧
    (after (inLife .connected 0xA000)).life = .idle ∧ (after (inLife .connected 0x7000)).life = .stopped ∧
    (after (inLife .stopped 0x6000)).life = .idle :=
  ⟨fun l w => (inLife_inv l w).deadline, by decide, by decide, by decide, by decide, by decide, by decide, by decide,
    by decide, by decide, by decide⟩

theorem witness_CountdownTimesOutOnItsLastTick :
    ∃ s : State, s.DeadlineInv ∧ s.life = .advertising ∧ s.deadline.toNat = 17 :=
  ⟨inLife .advertising 0, (inLife_inv _ _).deadline, rfl, by decide⟩

theorem witness_StopIsNoReset : ∃ s : State, s.Inv ∧ s.life = .idle ∧ s.seeded 0 = true :=
  ⟨seededAt 0b11 0, seededAt_inv _ _, rfl, by decide⟩

theorem witness_MergedPeriodOutcome :
    [Instr.linkUp, .ctick].Sublist mergeOrder ∧ [Instr.ctick, .stop].Sublist mergeOrder ∧
    (inLife .advertising 0).life = .advertising := by decide

/-- Nothing pending, an advertise, an accepted and a failed send. -/
theorem witness_EmitDuty :
    State.reset.dirty = false ∧ (inLife .idle 0).life = .idle ∧ (inLife .connected 0).life = .connected ∧
    (inLife .connected 0).ports.sendOk = true ∧
    ({ inLife .connected 0 with inputs := [{ sample 0 with sendOk := false }] } : State).ports.sendOk = false := by decide

/-- A step that sends and is accepted, and an EMIT with nothing pending. -/
theorem witness_SendsAndDirty :
    let s := { inLife .connected 0x4000 with dirty := true }
    step s = .next (after s) ∧ s.ports.rst = false ∧ .tSend s.snapshot ∈ (after s).events ∧ (after s).dirty = false ∧
    (inLife .connected 0x4000).ports.cmd = 0x4000 ∧ (inLife .connected 0x4000).dirty = false :=
  ⟨step_after (by decide), by decide, by decide, by decide, by decide, by decide⟩

theorem witness_SnapshotIsTheStartOfTheStep : ∃ s t snap, step s = .next t ∧ Event.tSend snap ∈ t.events :=
  ⟨{ inLife .connected 0x4000 with dirty := true }, _, _, step_after (by decide),
    show Event.tSend { inLife .connected 0x4000 with dirty := true }.snapshot ∈ _ by decide⟩

/-- The last register of each group, with the widest configuration; LIFE of the four states; a state that meets the
invariant. -/
theorem witness_ReadPortMap :
    (seededAt 0 0).Inv ∧ [Life.stopped, .idle, .advertising, .connected].map (fun l => (inLife l 0).readPort 0x00) =
      [0x0000, 0x0001, 0x0002, 0x0003] ∧
    let c := { Config.default with nch := 16, ne := 16 }
    c.wf = true ∧ 5 < c.nb ∧ 15 < c.ne ∧ 15 < c.nch ∧
    ({ State.resetFor c with qSeeded := List.replicate 16 true } : State).readPort 0x3F = 0x0004 ∧
    ({ State.resetFor c with dbCnt := List.replicate 16 1 } : State).readPort 0x4F = 0x0010 :=
  ⟨seededAt_inv 0 0, by decide, by decide⟩

/-- The first address above each group, the first of all, and the last. -/
theorem witness_UnlistedAddressReadsZero :
    State.reset.readPort 0x04 = 0 ∧ State.reset.readPort 0x16 = 0 ∧ State.reset.readPort 0x22 = 0 ∧
    State.reset.readPort 0x32 = 0 ∧ State.reset.readPort 0x46 = 0 ∧ State.reset.readPort 0xFF = 0 := by decide

end Sys2Proof.Tests
end

/-! SUPPORT. Proofs of the statements of 00_scope.md: what a step refuses, keeps, runs and reads. -/

namespace Sys2Proof

/-! ### The checks of R8, each as the proposition it decides -/

theorem Config.allChannels_iff (cfg : Config) (p : Nat → ChannelConfig → Bool) :
    cfg.allChannels p = true ↔ ∀ c < cfg.nch, p c (cfg.channel c) = true := by
  simp [Config.allChannels]

theorem Config.countsOk_iff (cfg : Config) :
    cfg.countsOk = true ↔ 1 ≤ cfg.nb ∧ cfg.nb ≤ 6 ∧ 1 ≤ cfg.nch ∧ cfg.nch ≤ 16 ∧ 1 ≤ cfg.ne ∧ cfg.ne ≤ 16 := by
  simp [Config.countsOk, and_assoc]

theorem Config.keyChannelsOk_iff (cfg : Config) :
    cfg.keyChannelsOk = true ↔
      ∀ c < cfg.nch, (cfg.channel c).kind = .key → c < cfg.nb ∧ (cfg.channel c).arg ≠ 0 := by
  simp [Config.keyChannelsOk, Config.allChannels_iff, imp_iff_not_or]

/-- The bits of an ARG from bit `k` up are 0 exactly when it is a `k`-bit number. -/
theorem extractLsb'_high_eq_zero_iff (arg : Byte) (k : Nat) (hk : k ≤ 8) :
    arg.extractLsb' k (8 - k) = 0 ↔ arg.toNat < 2 ^ k := by
  have hlt : arg.toNat / 2 ^ k < 2 ^ (8 - k) := by
    rw [Nat.div_lt_iff_lt_mul (by positivity), ← pow_add, Nat.sub_add_cancel hk]
    exact arg.isLt
  have hval : (arg.extractLsb' k (8 - k)).toNat = arg.toNat / 2 ^ k := by
    rw [BitVec.extractLsb'_toNat, Nat.shiftRight_eq_div_pow, Nat.mod_eq_of_lt hlt]
  rw [← BitVec.toNat_inj, hval]
  simp

theorem Config.modChannelsOk_iff (cfg : Config) :
    cfg.modChannelsOk = true ↔ ∀ c < cfg.nch, (cfg.channel c).kind = .mod → (cfg.channel c).arg.toNat < 2 ^ 3 := by
  simp only [← extractLsb'_high_eq_zero_iff _ 3 (by decide)]
  simp [Config.modChannelsOk, Config.allChannels_iff, imp_iff_not_or]

theorem Config.axisChannelsOk_iff (cfg : Config) :
    cfg.axisChannelsOk = true ↔ ∀ c < cfg.nch, (cfg.channel c).kind = .axis → (cfg.channel c).arg.toNat < 2 ^ 2 := by
  simp only [← extractLsb'_high_eq_zero_iff _ 2 (by decide)]
  simp [Config.axisChannelsOk, Config.allChannels_iff, imp_iff_not_or]

/-- The checks (a) to (h) of R8 over the numbers and channels of the configuration. -/
theorem Config.wf_iff (cfg : Config) :
    cfg.wf = true ↔
      (1 ≤ cfg.nb ∧ cfg.nb ≤ 6 ∧ 1 ≤ cfg.nch ∧ cfg.nch ≤ 16 ∧ 1 ≤ cfg.ne ∧ cfg.ne ≤ 16) ∧
      (∀ c < cfg.nch, (cfg.channel c).kind = .key → c < cfg.nb ∧ (cfg.channel c).arg ≠ 0) ∧
      (∀ c < cfg.nch, (cfg.channel c).kind = .mod → (cfg.channel c).arg.toNat < 2 ^ 3) ∧
      (∀ c < cfg.nch, (cfg.channel c).kind = .axis → (cfg.channel c).arg.toNat < 2 ^ 2) ∧
      (1 ≤ cfg.debounceK ∧ cfg.debounceK ≤ 15) ∧
      (1 ≤ cfg.advTimeoutTicks ∧ cfg.advTimeoutTicks ≤ 65535) ∧
      (8 ≤ cfg.encW ∧ cfg.encW ≤ 16) ∧
      (1 ≤ cfg.axisStep ∧ cfg.axisStep ≤ 127) := by
  rw [← Config.countsOk_iff, ← Config.keyChannelsOk_iff, ← Config.modChannelsOk_iff, ← Config.axisChannelsOk_iff]
  simp [Config.wf, Config.debounceOk, Config.timeoutOk, Config.encWidthOk, Config.axisStepOk, and_assoc]

end Sys2Proof

namespace Sys2Proof.Machine

/-! ### Which outcome a step has (R8, R12) -/

theorem runWord_completes (w : Word) (s : State) : ∃ t, runWord w s = .next t := by
  unfold runWord
  split
  · exact exec_completes _ s
  · exact ⟨_, rfl⟩

theorem step_completes {s : State} (hw : s.cfg.wf = true) : ∃ t, step s = .next t := by
  obtain ⟨u, hu⟩ := runWord_completes s.ports.cmd s
  rw [step, if_pos hw, hu]
  split <;> exact ⟨_, rfl⟩

theorem step_refuses_iff (s : State) : step s = .refused .illFormedConfig ↔ ¬ s.cfg.wf = true := by
  constructor
  · intro h hw
    obtain ⟨t, ht⟩ := step_completes hw
    simp [ht] at h
  · exact fun hw => if_neg hw

/-- Settles O15: `step` refuses exactly without `Config.wf`, which is the conjunction of the checks. -/
theorem onlyIllFormedConfigsAreRefused : Obligations.OnlyIllFormedConfigsAreRefused := by
  unfold Obligations.OnlyIllFormedConfigsAreRefused
  intro s
  rw [step_refuses_iff, Config.wf_iff]

theorem step_keeps_cfg {s t : State} (h : step s = .next t) : t.cfg = s.cfg := by
  obtain ⟨-, ⟨-, rfl⟩ | ⟨-, i, u, -, hu, rfl⟩ | ⟨-, m, -, rfl⟩⟩ := step_cases h
  · simp
  · simpa using (exec_keeps hu).1
  · simp

/-- Settles O18: neither a reset, a command, nor BadCmd writes the parameters. -/
theorem parametersNeverChange : Obligations.ParametersNeverChange := fun _ _ => step_keeps_cfg

/-! ### The command a step runs (R12) -/

theorem step_of_decode {s : State} {i : Instr} (hw : s.cfg.wf = true) (hr : s.ports.rst = false)
    (hd : decode s.ports.cmd = .ok i) : step s = endStep (exec i s) := by
  simp [step, runWord, hw, hr, hd]

/-- Settles O6: a command leaves the lined-up samples and the step count alone, so the end of the step consumes the
sample the command ran with. -/
theorem stepRunsDecodedCommand : Obligations.StepRunsDecodedCommand := by
  unfold Obligations.StepRunsDecodedCommand
  intro s i hw hr hd
  refine ⟨step_of_decode hw hr hd, fun t ht => ?_⟩
  obtain ⟨-, hin, htime⟩ := exec_keeps ht
  rw [step_of_decode hw hr hd, ht, ← hin, ← htime]
  rfl

@[simp] theorem State.withFetchWord_rst (s : State) (n w : Nat) : (s.withFetchWord n w).ports.rst = false := rfl

@[simp] theorem State.withFetchWord_cmd (s : State) (w : Word) : (s.withFetchWord 16 w.toNat).ports.cmd = w := by
  show BitVec.ofNat 16 (w.toNat % 2 ^ 16) = w
  rw [Nat.mod_eq_of_lt w.isLt, BitVec.ofNat_toNat, BitVec.setWidth_eq]

theorem decodeTableWord_toNat (w : Word) : decodeTableWord 16 w.toNat = (decode w).toOption := by
  simp only [decodeTableWord, Nat.mod_eq_of_lt w.isLt, w.isLt, if_true, BitVec.ofNat_toNat, BitVec.setWidth_eq]

/-- Settles O7: the word on the port is the word the step decodes. -/
theorem fetchedWordRunsNext : Obligations.FetchedWordRunsNext := by
  unfold Obligations.FetchedWordRunsNext
  intro s w i hw hd
  refine ⟨step_of_decode hw (s.withFetchWord_rst 16 w.toNat) ?_, ?_⟩
  · rw [State.withFetchWord_cmd, hd]
  · rw [decodeTableWord_toNat, hd]
    rfl

/-! ### What a command reads of the input ports (R12) -/

/-- The state with other samples lined up and another step count: what the environment presents is all that differs. -/
def State.presenting (s : State) (ins : List PortSample) (n : Nat) : State := { s with inputs := ins, time := n }

/-- An outcome whose next state presents other samples. -/
def outcomePresenting (ins : List PortSample) (n : Nat) :
    Host.Outcome State Fault Refusal → Host.Outcome State Fault Refusal
  | .next t => .next (t.presenting ins n)
  | .fault r => .fault r
  | .refused r => .refused r

section
variable (s : State) (ins : List PortSample) (n : Nat)

@[simp] theorem State.presenting_cfg : (s.presenting ins n).cfg = s.cfg := rfl
@[simp] theorem State.presenting_life : (s.presenting ins n).life = s.life := rfl
@[simp] theorem State.presenting_dirty : (s.presenting ins n).dirty = s.dirty := rfl
@[simp] theorem State.presenting_deadline : (s.presenting ins n).deadline = s.deadline := rfl

/-- A POLL samples each configured digital channel's own pin only (R69). -/
theorem pollDebounce_presenting (h : ∀ c < s.cfg.nch, (s.presenting ins n).rawPin c = s.rawPin c) :
    (s.presenting ins n).pollDebounce = s.pollDebounce :=
  perChannel_congr fun c hc => congrArg (s.debounceStep c) (h c hc)

/-- A POLL samples each configured encoder channel's own pins only (R69). -/
theorem pollDecode_presenting (h : ∀ j < s.cfg.ne, (s.presenting ins n).pinCode j = s.pinCode j) :
    (s.presenting ins n).pollDecode = s.pollDecode :=
  perChannel_congr fun j hj => congrArg (s.decodeStep j) (h j hj)

/-- The accumulators a POLL stores, each fed by the channel's own pins (R69). -/
theorem pollEncoders_presenting (h : ∀ j < s.cfg.ne, (s.presenting ins n).pinCode j = s.pinCode j) :
    (perChannel s.cfg.ne fun j =>
        (s.presenting ins n).accumulate j
          ((s.presenting ins n).decodeStep j ((s.presenting ins n).pinCode j)).delta) =
      perChannel s.cfg.ne fun j => s.accumulate j (s.decodeStep j (s.pinCode j)).delta :=
  perChannel_congr fun j hj => congrArg (fun code => s.accumulate j (s.decodeStep j code).delta) (h j hj)

theorem exec_poll_presenting (hraw : ∀ c < s.cfg.nch, (s.presenting ins n).rawPin c = s.rawPin c)
    (hpin : ∀ j < s.cfg.ne, (s.presenting ins n).pinCode j = s.pinCode j) :
    exec .poll (s.presenting ins n) = outcomePresenting ins n (exec .poll s) := by
  have hchg : (s.presenting ins n).pollChg = s.pollChg := by
    unfold State.pollChg
    rw [pollDebounce_presenting s ins n hraw, pollDecode_presenting s ins n hpin]
    rfl
  by_cases hl : s.life = .stopped
  · simp only [exec, execPoll, State.presenting_life, hl, if_true]
    rfl
  · simp only [exec, execPoll, State.presenting_life, State.presenting_cfg, hl, if_false, hchg,
      pollDebounce_presenting s ins n hraw, pollDecode_presenting s ins n hpin, pollEncoders_presenting s ins n hpin]
    rfl

theorem exec_emit_presenting
    (h : s.life = .connected → s.dirty = true → (s.presenting ins n).ports.sendOk = s.ports.sendOk) :
    exec .emit (s.presenting ins n) = outcomePresenting ins n (exec .emit s) := by
  cases hd : s.dirty with
  | false => simp only [exec, execEmit, State.presenting_dirty, hd, if_true]; rfl
  | true =>
    cases hl : s.life with
    | stopped => simp only [exec, execEmit, State.presenting_dirty, State.presenting_life, hd, hl]; rfl
    | idle => simp only [exec, execEmit, State.presenting_dirty, State.presenting_life, hd, hl]; rfl
    | advertising => simp only [exec, execEmit, State.presenting_dirty, State.presenting_life, hd, hl]; rfl
    | connected =>
      simp only [exec, execEmit, State.presenting_dirty, State.presenting_life, hd, hl, h hl hd]
      cases s.ports.sendOk <;> rfl

/-- Every command but POLL and EMIT acts alike whatever the environment presents (R12). -/
theorem exec_presenting (i : Instr) (hp : i ≠ .poll) (he : i ≠ .emit) :
    exec i (s.presenting ins n) = outcomePresenting ins n (exec i s) := by
  cases i with
  | poll => exact absurd rfl hp
  | emit => exact absurd rfl he
  | nop => rfl
  | clrstat => rfl
  | reservedC low => rfl
  | reservedD low => rfl
  | reservedE low => rfl
  | reservedF low => rfl
  | qdec ch a b =>
    by_cases hc : ch.toNat < s.cfg.ne
    · by_cases hl : s.life = .stopped <;>
        simp only [exec, execQdec, State.presenting_cfg, State.presenting_life, hc, hl, not_true,
          if_false, if_true] <;> rfl
    · simp only [exec, execQdec, State.presenting_cfg, hc, not_false_iff, if_true]; rfl
  | dsamp ch r =>
    by_cases hc : ch.toNat < s.cfg.nch
    · by_cases hl : s.life = .stopped <;>
        simp only [exec, execDsamp, State.presenting_cfg, State.presenting_life, hc, hl, not_true,
          if_false, if_true] <;> rfl
    · simp only [exec, execDsamp, State.presenting_cfg, hc, not_false_iff, if_true]; rfl
  | start => simp only [exec, execStart, State.presenting_life]; split <;> rfl
  | stop => simp only [exec, execStop, State.presenting_life]; split <;> rfl
  | advertise => simp only [exec, execAdvertise, State.presenting_life]; split <;> rfl
  | linkUp => simp only [exec, execLinkUp, State.presenting_life]; split <;> rfl
  | linkDown => simp only [exec, execLinkDown, State.presenting_life]; split <;> rfl
  | ctick =>
    simp only [exec, execCtick, State.presenting_life, State.presenting_deadline]
    split
    · by_cases hd : s.deadline - 1 = 0 <;> simp only [hd, if_true, if_false] <;> rfl
    · rfl
    · rfl
    · rfl

end

/-- Settles O25: POLL and EMIT read the ports they may, every other command none. -/
theorem portsReachOnlyTheirCommands : Obligations.PortsReachOnlyTheirCommands := by
  unfold Obligations.PortsReachOnlyTheirCommands
  intro i s t ins n ht s' hpoll hemit
  show exec i (s.presenting ins n) = outcomePresenting ins n (.next t)
  rw [← ht]
  by_cases hp : i = .poll
  · subst hp
    exact exec_poll_presenting s ins n (hpoll rfl).1 (hpoll rfl).2
  by_cases he : i = .emit
  · subst he
    exact exec_emit_presenting s ins n (hemit rfl)
  exact exec_presenting s ins n i hp he

end Sys2Proof.Machine

/-! SUPPORT. Proofs of the statements of 10_state.md: who writes a field, the countdown, and the invariant. -/

namespace Sys2Proof

/-! ### The ranges of R8 that the state's fields rest on -/

theorem Config.debounceK_range {cfg : Config} (hw : cfg.wf = true) : 1 ≤ cfg.debounceK ∧ cfg.debounceK ≤ 15 := by
  obtain ⟨-, -, -, -, hk, -⟩ := cfg.wf_iff.1 hw
  exact hk

theorem Config.advTimeoutTicks_range {cfg : Config} (hw : cfg.wf = true) :
    1 ≤ cfg.advTimeoutTicks ∧ cfg.advTimeoutTicks ≤ 65535 := by
  obtain ⟨-, -, -, -, -, ht, -⟩ := cfg.wf_iff.1 hw
  exact ht

theorem Config.encW_le {cfg : Config} (hw : cfg.wf = true) : cfg.encW ≤ 16 := by
  obtain ⟨-, -, -, -, -, -, ⟨-, he⟩, -⟩ := cfg.wf_iff.1 hw
  exact he

end Sys2Proof

namespace Sys2Proof.Machine

variable {s t : State}

/-! ### The writers of each field (R14, R29) -/

/-- Settles O22: with `rst` low the step ran one command, whose inversion lemma says what it writes, or a malformed word,
which writes `status.BADCMD` alone. -/
theorem fieldsHaveOnlyTheirWriters : Obligations.FieldsHaveOnlyTheirWriters := by
  unfold Obligations.FieldsHaveOnlyTheirWriters
  intro s t h hr
  obtain ⟨-, ⟨hr', -⟩ | ⟨-, i, u, hi, hu, rfl⟩ | ⟨-, m, hm, rfl⟩⟩ := step_cases h
  case inl => simp [hr] at hr'
  case inr.inr => simp [hm]
  case inr.inl =>
    cases i with
    | nop => simp [exec_nop_cases hu]
    | clrstat => simp [hi, Instr.mnemonic, exec_clrstat_cases hu]
    | reservedC low => simp [hi, Instr.mnemonic, exec_reservedC_cases hu]
    | reservedD low => simp [hi, Instr.mnemonic, exec_reservedD_cases hu]
    | reservedE low => simp [hi, Instr.mnemonic, exec_reservedE_cases hu]
    | reservedF low => simp [hi, Instr.mnemonic, exec_reservedF_cases hu]
    | start => obtain ⟨-, rfl⟩ | ⟨-, rfl⟩ := exec_start_cases hu <;> simp [hi, Instr.mnemonic]
    | stop => obtain ⟨-, rfl⟩ | ⟨-, rfl⟩ | ⟨-, -, rfl⟩ := exec_stop_cases hu <;> simp [hi, Instr.mnemonic]
    | advertise => obtain ⟨-, rfl⟩ | ⟨-, rfl⟩ := exec_advertise_cases hu <;> simp [hi, Instr.mnemonic]
    | linkUp => obtain ⟨-, rfl⟩ | ⟨-, rfl⟩ := exec_linkUp_cases hu <;> simp [hi, Instr.mnemonic]
    | linkDown => obtain ⟨-, rfl⟩ | ⟨-, rfl⟩ := exec_linkDown_cases hu <;> simp [hi, Instr.mnemonic]
    | ctick =>
      obtain ⟨-, rfl⟩ | ⟨-, -, rfl⟩ | ⟨-, -, rfl⟩ := exec_ctick_cases hu <;> simp [hi, Instr.mnemonic]
    | emit =>
      obtain ⟨-, rfl⟩ | ⟨-, -, rfl⟩ | ⟨-, -, -, rfl⟩ | ⟨-, -, -, rfl⟩ := exec_emit_cases hu <;>
        simp [hi, Instr.mnemonic]
    | qdec ch a b =>
      obtain ⟨-, rfl⟩ | ⟨-, -, rfl⟩ | ⟨-, -, rfl⟩ := exec_qdec_cases hu <;> simp [hi, Instr.mnemonic]
    | dsamp ch r =>
      obtain ⟨-, rfl⟩ | ⟨-, -, rfl⟩ | ⟨-, -, rfl⟩ := exec_dsamp_cases hu <;> simp [hi, Instr.mnemonic]
    | poll => obtain ⟨-, rfl⟩ | ⟨-, rfl⟩ := exec_poll_cases hu <;> simp [hi, Instr.mnemonic]

/-! ### The countdown (R21, R22)

A command that writes neither `life` nor `deadline` leaves `DeadlineInv` as it is, by definition. -/

/-- Outside ADVERTISING the countdown rests at 0. -/
theorem State.DeadlineInv.of_not_advertising (hl : s.life ≠ .advertising) (hd : s.deadline = 0) : s.DeadlineInv :=
  ⟨fun h => absurd h hl, fun _ => hd⟩

theorem enterAdvertising_deadlineInv (hw : s.cfg.wf = true) : s.enterAdvertising.DeadlineInv := by
  have ht := Config.advTimeoutTicks_range hw
  have hnat : (BitVec.ofNat 16 s.cfg.advTimeoutTicks).toNat = s.cfg.advTimeoutTicks := by
    rw [BitVec.toNat_ofNat, Nat.mod_eq_of_lt (by omega)]
  refine ⟨fun _ => ?_, fun h => absurd rfl h⟩
  simp only [State.enterAdvertising_deadline, State.enterAdvertising_cfg, hnat]
  omega

/-- A tick that does not end the countdown (42_connection_lifecycle.md R79). -/
theorem State.DeadlineInv.tick (hd : s.DeadlineInv) (hl : s.life = .advertising) (h1 : s.deadline ≠ 1) :
    { s with deadline := s.deadline - 1 }.DeadlineInv := by
  obtain ⟨hpos, hle⟩ := hd.1 hl
  have hsub : (s.deadline - 1).toNat = s.deadline.toNat - 1 := by bv_omega
  have hne : s.deadline.toNat ≠ 1 := by bv_omega
  refine ⟨fun _ => ?_, fun h => absurd hl h⟩
  show 1 ≤ (s.deadline - 1).toNat ∧ (s.deadline - 1).toNat ≤ s.cfg.advTimeoutTicks
  omega

theorem exec_keeps_deadlineInv {i : Instr} (hw : s.cfg.wf = true) (hd : s.DeadlineInv) (h : exec i s = .next t) :
    t.DeadlineInv := by
  cases i with
  | nop => obtain rfl := exec_nop_cases h; exact hd
  | clrstat => obtain rfl := exec_clrstat_cases h; exact hd
  | reservedC low => obtain rfl := exec_reservedC_cases h; exact hd
  | reservedD low => obtain rfl := exec_reservedD_cases h; exact hd
  | reservedE low => obtain rfl := exec_reservedE_cases h; exact hd
  | reservedF low => obtain rfl := exec_reservedF_cases h; exact hd
  | qdec ch a b => obtain ⟨-, rfl⟩ | ⟨-, -, rfl⟩ | ⟨-, -, rfl⟩ := exec_qdec_cases h <;> exact hd
  | dsamp ch r => obtain ⟨-, rfl⟩ | ⟨-, -, rfl⟩ | ⟨-, -, rfl⟩ := exec_dsamp_cases h <;> exact hd
  | poll => obtain ⟨-, rfl⟩ | ⟨-, rfl⟩ := exec_poll_cases h <;> exact hd
  | start =>
    obtain ⟨hl, rfl⟩ | ⟨-, rfl⟩ := exec_start_cases h
    · exact .of_not_advertising nofun (hd.2 (by simp [hl]))
    · exact hd
  | stop =>
    obtain ⟨-, rfl⟩ | ⟨-, rfl⟩ | ⟨-, -, rfl⟩ := exec_stop_cases h
    · exact hd
    · exact .of_not_advertising nofun rfl
    · exact .of_not_advertising nofun rfl
  | advertise =>
    obtain ⟨-, rfl⟩ | ⟨-, rfl⟩ := exec_advertise_cases h
    · exact enterAdvertising_deadlineInv hw
    · exact hd
  | linkUp =>
    obtain ⟨-, rfl⟩ | ⟨-, rfl⟩ := exec_linkUp_cases h
    · exact .of_not_advertising nofun rfl
    · exact hd
  | linkDown =>
    obtain ⟨hl, rfl⟩ | ⟨-, rfl⟩ := exec_linkDown_cases h
    · exact .of_not_advertising nofun (hd.2 (by simp [hl]))
    · exact hd
  | ctick =>
    obtain ⟨-, rfl⟩ | ⟨-, -, rfl⟩ | ⟨hl, h1, rfl⟩ := exec_ctick_cases h
    · exact hd
    · exact .of_not_advertising nofun rfl
    · exact hd.tick hl h1
  | emit =>
    obtain ⟨-, rfl⟩ | ⟨-, -, rfl⟩ | ⟨-, -, -, rfl⟩ | ⟨-, -, -, rfl⟩ := exec_emit_cases h
    · exact hd
    · exact enterAdvertising_deadlineInv hw
    · exact hd
    · exact hd

theorem step_keeps_deadlineInv (hd : s.DeadlineInv) (h : step s = .next t) : t.DeadlineInv := by
  obtain ⟨hw, ⟨-, rfl⟩ | ⟨-, i, u, -, hu, rfl⟩ | ⟨-, m, -, rfl⟩⟩ := step_cases h
  · exact .of_not_advertising nofun rfl
  · exact (exec_keeps_deadlineInv hw hd hu :)
  · exact hd

/-- Settles O21: only a reset, a lifecycle command or EMIT writes `life` or `deadline`, and each leaves the
pair in range. -/
theorem deadlineRunsOnlyWhileAdvertising : Obligations.DeadlineRunsOnlyWhileAdvertising :=
  ⟨.of_not_advertising nofun rfl, fun _ _ => step_keeps_deadlineInv⟩

/-! ### The invariant under each operation on the state

One rule per operation the commands are made of; a command keeps the invariant as a composition of them. -/

/-- The invariant says nothing of `dirty`, the status bits, the outputs of a step and the environment's samples. -/
theorem State.Inv.outside (h : s.Inv) (dirty bad ign : Bool) (events : List Event) (resp : Word)
    (inputs : List PortSample) (time : Nat) :
    { s with dirty := dirty, statusBadcmd := bad, statusIgn := ign, events := events, resp := resp,
             inputs := inputs, time := time }.Inv :=
  { h with shape := { h.shape with } }

/-- Entering any life but STOPPED: the records stay, so the countdown is all there is to check. -/
theorem State.Inv.toLife (h : s.Inv) {l : Life} {d : Word}
    (hd : { s with life := l, deadline := d }.DeadlineInv) (hl : l ≠ .stopped) : { s with life := l, deadline := d }.Inv :=
  { h with shape := { h.shape with }, deadline := hd, unseeded := fun e => absurd e hl }

/-- Entering STOPPED clears every seed (42_connection_lifecycle.md R75, R80 (f)). -/
theorem State.Inv.toStopped (h : s.Inv) : { s.clearSeeds with life := .stopped, deadline := 0 }.Inv :=
  { h with
    shape := { h.shape with qSeeded := perChannel_length _ _ }
    deadline := .of_not_advertising nofun rfl
    unseeded := fun _ _ hj => perChannel_getD _ _ hj }

/-- An accepted send empties the axes (43_emission_and_control.md R83). -/
theorem State.Inv.clearAxes (h : s.Inv) : { s with axisX := 0, axisY := 0 }.Inv :=
  { h with shape := { h.shape with }, axes := fun _ => ⟨rfl, rfl⟩ }

/-- The digital writes recompute slots and modifiers from the new stable levels, and move an axis only where an AXIS
channel is configured (41_debounce_sampler.md R65 to R67). -/
theorem State.Inv.writeDigital (h : s.Inv) {st : List Bool} {cnt : List Nibble} (hst : st.length = s.cfg.nch)
    (hcnt : cnt.length = s.cfg.nch) (hlt : ∀ c < s.cfg.nch, (cnt.getD c 0).toNat < s.cfg.debounceK) :
    (s.writeDigital st cnt).Inv where
  config := h.config
  shape := { h.shape with buttons := perChannel_length _ _, dbStable := hst, dbCnt := hcnt }
  buttons := by
    intro i hi
    show (s.keyMapping st).getD i 0 =
      if (s.cfg.channel i).kind = .key ∧ st.getD i false = true then (s.cfg.channel i).arg else 0
    rw [keyMapping_getD s st hi]
    by_cases hk : (s.cfg.channel i).kind = .key
    · simp [hk]
    · simp [hk, h.buttons i hi]
  modifiers := rfl
  encoders := h.encoders
  axes := by
    intro hnone
    obtain ⟨hx, hy⟩ := h.axes hnone
    have hsum : ∀ axis, axisSum s.cfg axis s.dbStable st = 0 := fun axis =>
      axisSum_zero _ _ _ _ fun c hc hk => absurd hk (hnone c hc)
    have hsat : sat8 0 = 0 := sat8_self 0
    simp [hsum, hsat, hx, hy]
  counts := hlt
  deadline := h.deadline
  unseeded := h.unseeded

/-- Outside STOPPED the encoder records may take any codes and seeds, and accumulators of ENC_W bits (R17). -/
theorem State.Inv.writeEncoders (h : s.Inv) (hl : s.life ≠ .stopped) {qp : List Code} {qs : List Bool}
    {es : List Word} (hqp : qp.length = s.cfg.ne) (hqs : qs.length = s.cfg.ne) (hes : es.length = s.cfg.ne)
    (hw : ∀ j < s.cfg.ne, es.getD j 0 = wrapEnc s.cfg.encW (es.getD j 0).toInt) :
    { s with qPrev := qp, qSeeded := qs, encoders := es }.Inv :=
  { h with
    shape := { h.shape with qPrev := hqp, qSeeded := hqs, encoders := hes }
    encoders := hw
    unseeded := fun e => absurd e hl }

theorem debounceStep_count_lt (hw : s.cfg.wf = true) (c : Nat) (raw : Bool) :
    (s.debounceStep c raw).count.toNat < s.cfg.debounceK := by
  obtain ⟨hk, hk'⟩ := Config.debounceK_range hw
  exact dbstep_count_lt _ _ _ hk hk'

/-- The sum an accumulator takes is again an ENC_W-bit value (40_quadrature_decoder.md R58). -/
theorem accumulate_eq_wrapEnc (hw : s.cfg.wf = true) (j : Nat) (d : Int) :
    s.accumulate j d = wrapEnc s.cfg.encW (s.accumulate j d).toInt :=
  (wrapEnc_wrapEnc _ (Config.encW_le hw)).symm

/-! ### The invariant under the three sampling commands -/

theorem exec_poll_keeps_inv (h : s.Inv) (hx : exec .poll s = .next t) : t.Inv := by
  obtain ⟨-, rfl⟩ | ⟨hl, rfl⟩ := exec_poll_cases hx
  · exact h.outside ..
  · have hdig : (s.writeDigital (s.pollDebounce.map Debounce.stable) (s.pollDebounce.map Debounce.count)).Inv := by
      refine h.writeDigital (by simp [State.pollDebounce]) (by simp [State.pollDebounce]) fun c hc => ?_
      rw [State.pollDebounce, map_perChannel, perChannel_getD _ _ hc]
      exact debounceStep_count_lt h.config c _
    have henc := hdig.writeEncoders hl (qp := s.pollDecode.map QStep.prev) (qs := s.pollDecode.map QStep.seeded)
      (es := perChannel s.cfg.ne fun j => s.accumulate j (s.decodeStep j (s.pinCode j)).delta)
      (by simp [State.pollDecode]) (by simp [State.pollDecode]) (by simp) fun j hj => by
        rw [State.writeDigital_cfg] at hj ⊢
        rw [perChannel_getD _ _ hj]
        exact accumulate_eq_wrapEnc h.config j _
    exact henc.outside ..

theorem exec_qdec_keeps_inv {ch : Nibble} {a b : Bool} (h : s.Inv) (hx : exec (.qdec ch a b) s = .next t) :
    t.Inv := by
  obtain ⟨-, rfl⟩ | ⟨-, -, rfl⟩ | ⟨hch, hl, rfl⟩ := exec_qdec_cases hx
  · exact h.outside ..
  · exact h.outside ..
  · have henc := h.writeEncoders hl (qp := s.qPrev.set ch.toNat (packCode a b)) (qs := s.qSeeded.set ch.toNat true)
      (es := s.encoders.set ch.toNat (s.accumulate ch.toNat (s.decodeStep ch.toNat (packCode a b)).delta))
      (by simp [h.shape.qPrev]) (by simp [h.shape.qSeeded]) (by simp [h.shape.encoders]) fun j hj => by
        rw [getD_set _ _ _ _ _ (by rw [h.shape.encoders]; exact hch)]
        split
        · exact accumulate_eq_wrapEnc h.config _ _
        · exact h.encoders j hj
    exact henc.outside ..

theorem exec_dsamp_keeps_inv {ch : Nibble} {r : Bool} (h : s.Inv) (hx : exec (.dsamp ch r) s = .next t) :
    t.Inv := by
  obtain ⟨-, rfl⟩ | ⟨-, -, rfl⟩ | ⟨hch, -, rfl⟩ := exec_dsamp_cases hx
  · exact h.outside ..
  · exact h.outside ..
  · have hdig := h.writeDigital (st := s.dbStable.set ch.toNat (s.debounceStep ch.toNat r).stable)
      (cnt := s.dbCnt.set ch.toNat (s.debounceStep ch.toNat r).count)
      (by simp [h.shape.dbStable]) (by simp [h.shape.dbCnt]) fun c hc => by
        rw [getD_set _ _ _ _ _ (by rw [h.shape.dbCnt]; exact hch)]
        split
        · exact debounceStep_count_lt h.config _ _
        · exact h.counts c hc
    exact hdig.outside ..

/-! ### The invariant under every command and step -/

theorem exec_keeps_inv {i : Instr} (h : s.Inv) (hx : exec i s = .next t) : t.Inv := by
  have hd : t.DeadlineInv := exec_keeps_deadlineInv h.config h.deadline hx
  cases i with
  | poll => exact exec_poll_keeps_inv h hx
  | qdec ch a b => exact exec_qdec_keeps_inv h hx
  | dsamp ch r => exact exec_dsamp_keeps_inv h hx
  | nop => obtain rfl := exec_nop_cases hx; exact h.outside ..
  | clrstat => obtain rfl := exec_clrstat_cases hx; exact h.outside ..
  | reservedC low => obtain rfl := exec_reservedC_cases hx; exact h.outside ..
  | reservedD low => obtain rfl := exec_reservedD_cases hx; exact h.outside ..
  | reservedE low => obtain rfl := exec_reservedE_cases hx; exact h.outside ..
  | reservedF low => obtain rfl := exec_reservedF_cases hx; exact h.outside ..
  | start =>
    obtain ⟨-, rfl⟩ | ⟨-, rfl⟩ := exec_start_cases hx
    · exact (h.toLife hd nofun).outside ..
    · exact h.outside ..
  | stop =>
    obtain ⟨-, rfl⟩ | ⟨-, rfl⟩ | ⟨-, -, rfl⟩ := exec_stop_cases hx
    · exact h.outside ..
    · exact h.toStopped.outside ..
    · exact h.toStopped.outside ..
  | advertise =>
    obtain ⟨-, rfl⟩ | ⟨-, rfl⟩ := exec_advertise_cases hx
    · exact (h.toLife hd nofun).outside ..
    · exact h.outside ..
  | linkUp =>
    obtain ⟨-, rfl⟩ | ⟨-, rfl⟩ := exec_linkUp_cases hx
    · exact (h.toLife hd nofun).outside ..
    · exact h.outside ..
  | linkDown =>
    obtain ⟨-, rfl⟩ | ⟨-, rfl⟩ := exec_linkDown_cases hx
    · exact (h.toLife hd nofun).outside ..
    · exact h.outside ..
  | ctick =>
    obtain ⟨-, rfl⟩ | ⟨-, -, rfl⟩ | ⟨hl, -, rfl⟩ := exec_ctick_cases hx
    · exact h.outside ..
    · exact (h.toLife hd nofun).outside ..
    · exact (h.toLife hd (by simp [hl])).outside ..
  | emit =>
    obtain ⟨-, rfl⟩ | ⟨-, -, rfl⟩ | ⟨-, -, -, rfl⟩ | ⟨-, -, -, rfl⟩ := exec_emit_cases hx
    · exact h.outside ..
    · exact (h.toLife hd nofun).outside ..
    · exact h.clearAxes.outside ..
    · exact h.outside ..

/-- With no channel stably active no modifier is set (41_debounce_sampler.md R66). -/
theorem modMapping_eq_zero {cfg : Config} {st : List Bool} (hst : ∀ c, st.getD c false = false) :
    modMapping cfg st = 0 := by
  apply BitVec.eq_of_getLsbD_eq
  intro b hb
  rw [Bool.eq_iff_iff, modMapping_getLsbD _ _ _ hb]
  simp [-List.getD_eq_getElem?_getD, hst]

/-- Nothing is pressed, counted, seeded or running in the state after reset (70_reset_and_hazards.md R103). -/
theorem resetFor_inv {cfg : Config} (hw : cfg.wf = true) : (State.resetFor cfg).Inv := by
  obtain ⟨hk, -⟩ := Config.debounceK_range hw
  have hbutton : ∀ i, (State.resetFor cfg).button i = 0 := List.getElem?_getD_replicate_default_eq _ cfg.nb
  have hencoder : ∀ j, (State.resetFor cfg).encoder j = 0 := List.getElem?_getD_replicate_default_eq _ cfg.ne
  have hseeded : ∀ j, (State.resetFor cfg).seeded j = false := List.getElem?_getD_replicate_default_eq _ cfg.ne
  have hstable : ∀ c, (State.resetFor cfg).stable c = false := List.getElem?_getD_replicate_default_eq _ cfg.nch
  have hcount : ∀ c, (State.resetFor cfg).count c = 0 := List.getElem?_getD_replicate_default_eq _ cfg.nch
  exact
    { config := hw
      shape := by constructor <;> exact List.length_replicate
      buttons := fun i _ => by simp [hbutton, hstable]
      modifiers := (modMapping_eq_zero hstable).symm
      encoders := fun j _ => by rw [hencoder]; exact (wrapEnc_zero cfg.encW).symm
      axes := fun _ => ⟨rfl, rfl⟩
      counts := fun c _ => by rw [hcount]; exact hk
      deadline := .of_not_advertising nofun rfl
      unseeded := fun _ j _ => hseeded j }

/-- Settles O19: the invariant holds after a reset, every command keeps it, and BadCmd and the end of a step write nothing
it speaks of. -/
theorem everyStepKeepsTheInvariant : Obligations.EveryStepKeepsTheInvariant := by
  unfold Obligations.EveryStepKeepsTheInvariant
  intro s t h hs
  obtain ⟨hw, ⟨-, rfl⟩ | ⟨-, i, u, -, hu, rfl⟩ | ⟨-, m, -, rfl⟩⟩ := step_cases hs
  · exact (resetFor_inv hw).outside ..
  · exact (exec_keeps_inv h hu).outside ..
  · exact h.outside ..

end Sys2Proof.Machine

/-! SUPPORT. Proofs of the statements of 20_memory.md: what each address of the register read port answers. -/

namespace Sys2Proof

/-- The channel counts are small enough that the register groups, 16 addresses apart, do not overlap. -/
theorem Config.counts_le {cfg : Config} (hw : cfg.wf = true) : cfg.nb ≤ 6 ∧ cfg.nch ≤ 16 ∧ cfg.ne ≤ 16 := by
  obtain ⟨⟨-, hnb, -, hnch, -, hne⟩, -⟩ := cfg.wf_iff.1 hw
  exact ⟨hnb, hnch, hne⟩

end Sys2Proof

namespace Sys2Proof.Machine

/-! ### The register an address selects (R32, R33) -/

theorem readPort_unlisted (s : State) {a : BitVec 8} (h : 4 ≤ a.toNat)
    (hbutton : ¬ (0x10 ≤ a.toNat ∧ a.toNat < 0x10 + s.cfg.nb))
    (hencoder : ¬ (0x20 ≤ a.toNat ∧ a.toNat < 0x20 + s.cfg.ne))
    (hqstate : ¬ (0x30 ≤ a.toNat ∧ a.toNat < 0x30 + s.cfg.ne))
    (hdbstate : ¬ (0x40 ≤ a.toNat ∧ a.toNat < 0x40 + s.cfg.nch)) : s.readPort a = 0 := by
  unfold State.readPort
  have h0 : a.toNat ≠ 0x00 := by omega
  have h1 : a.toNat ≠ 0x01 := by omega
  have h2 : a.toNat ≠ 0x02 := by omega
  have h3 : a.toNat ≠ 0x03 := by omega
  simp only [h0, h1, h2, h3, hbutton, hencoder, hqstate, hdbstate, if_false]

/-- Settles O53: the address fails the test of every register. -/
theorem unlistedAddressReadsZero : Obligations.UnlistedAddressReadsZero :=
  fun s _ => readPort_unlisted s

theorem address_toNat {n : Nat} (h : n < 256) : (BitVec.ofNat 8 n).toNat = n := Nat.mod_eq_of_lt h

section
variable {s : State}

theorem readPort_button (hw : s.cfg.wf = true) {i : Nat} (hi : i < s.cfg.nb) :
    s.readPort (BitVec.ofNat 8 (0x10 + i)) = (s.button i).setWidth 16 := by
  obtain ⟨hnb, -, -⟩ := Config.counts_le hw
  rw [State.readPort, address_toNat (by omega)]
  simp (disch := omega) only [if_neg, if_pos, Nat.add_sub_cancel_left]

theorem readPort_encoder (hw : s.cfg.wf = true) {j : Nat} (hj : j < s.cfg.ne) :
    s.readPort (BitVec.ofNat 8 (0x20 + j)) = s.encoder j := by
  obtain ⟨hnb, -, hne⟩ := Config.counts_le hw
  rw [State.readPort, address_toNat (by omega)]
  simp (disch := omega) only [if_neg, if_pos, Nat.add_sub_cancel_left]

theorem readPort_qstate (hw : s.cfg.wf = true) {j : Nat} (hj : j < s.cfg.ne) :
    s.readPort (BitVec.ofNat 8 (0x30 + j)) = 0#13 ++ BitVec.ofBool (s.seeded j) ++ s.prevCode j := by
  obtain ⟨hnb, -, hne⟩ := Config.counts_le hw
  rw [State.readPort, address_toNat (by omega)]
  simp (disch := omega) only [if_neg, if_pos, Nat.add_sub_cancel_left]

theorem readPort_dbstate (hw : s.cfg.wf = true) {c : Nat} (hc : c < s.cfg.nch) :
    s.readPort (BitVec.ofNat 8 (0x40 + c)) = 0#8 ++ s.count c ++ 0#3 ++ BitVec.ofBool (s.stable c) := by
  obtain ⟨hnb, hnch, hne⟩ := Config.counts_le hw
  rw [State.readPort, address_toNat (by omega)]
  simp (disch := omega) only [if_neg, if_pos, Nat.add_sub_cancel_left]

end

/-! ### The registers as numbers (10_state.md R20, R23 to R25) -/

theorem status_toNat (s : State) :
    s.status.toNat = s.life.bits.toNat + 4 * s.dirty.toNat + 8 * s.statusBadcmd.toNat + 16 * s.statusIgn.toNat := by
  simp only [State.status, append_toNat, BitVec.toNat_ofBool, BitVec.toNat_zero]
  omega

/-- Settles O52: the channel counts of R8 keep the register groups apart, and each register word is its fields, weighted
by their positions. -/
theorem readPortMap : Obligations.ReadPortMap := by
  unfold Obligations.ReadPortMap
  intro s hw
  have hbyte : ∀ b : Byte, (b.setWidth 16).toNat = b.toNat := fun b => BitVec.toNat_setWidth_of_le (by decide)
  refine ⟨?status, rfl, hbyte s.modifiers, ?axes, ?button, ?encoder, ?encW, ?qstate, ?dbstate⟩
  case status =>
    refine (status_toNat s).trans ?_
    cases s.life <;> rfl
  case axes =>
    show (s.axisY ++ s.axisX).toNat = _
    rw [append_toNat]
    omega
  case button => exact fun i hi => by rw [readPort_button hw hi, hbyte]
  case encoder => exact fun j hj => by rw [readPort_encoder hw hj]
  case encW =>
    intro hinv j hj
    rw [readPort_encoder hw hj, hinv.encoders j hj, wrapEnc_setWidth _ (Config.encW_le hw)]
  case qstate =>
    intro j hj
    rw [readPort_qstate hw hj]
    simp only [append_toNat, BitVec.toNat_ofBool, BitVec.toNat_zero]
    omega
  case dbstate =>
    intro c hc
    rw [readPort_dbstate hw hc]
    simp only [append_toNat, BitVec.toNat_ofBool, BitVec.toNat_zero]
    omega

end Sys2Proof.Machine

/-! SUPPORT. Proofs of the statements of 30_encoding.md: the decoder, the encoder and the opcode map agree, and what a bad
word does. -/

namespace Sys2Proof

/-! ### Decoding an encoding (R44, R45) -/

theorem decodePlain_commandWord (op : Nibble) (i : Instr) : decodePlain (commandWord op 0 0) i = .ok i :=
  decodePlain_ok.2 ⟨rfl, chField_commandWord op 0 0, dataField_commandWord op 0 0⟩

theorem decodeQdec_commandWord (op ch : Nibble) (a b : Bool) :
    decodeQdec (commandWord op ch (0#6 ++ BitVec.ofBool a ++ BitVec.ofBool b)) = .ok (.qdec ch a b) := by
  rw [decodeQdec, chField_commandWord, dataField_commandWord]
  cases a <;> cases b <;> rfl

theorem decodeDsamp_commandWord (op ch : Nibble) (r : Bool) :
    decodeDsamp (commandWord op ch (0#7 ++ BitVec.ofBool r)) = .ok (.dsamp ch r) := by
  rw [decodeDsamp, chField_commandWord, dataField_commandWord]
  cases r <;> rfl

/-- The operation code of the word selects the command's own field decoder, which reads the operands back. -/
@[simp] theorem decode_encode (i : Instr) : decode (encode i) = .ok i := by
  cases i with
  | nop => exact decodePlain_commandWord 0x0 .nop
  | poll => exact decodePlain_commandWord 0x1 .poll
  | emit => exact decodePlain_commandWord 0x4 .emit
  | ctick => exact decodePlain_commandWord 0x5 .ctick
  | start => exact decodePlain_commandWord 0x6 .start
  | stop => exact decodePlain_commandWord 0x7 .stop
  | advertise => exact decodePlain_commandWord 0x8 .advertise
  | linkUp => exact decodePlain_commandWord 0x9 .linkUp
  | linkDown => exact decodePlain_commandWord 0xA .linkDown
  | clrstat => exact decodePlain_commandWord 0xB .clrstat
  | qdec ch a b =>
    simp only [decode, encode, opField_commandWord]
    exact decodeQdec_commandWord 0x2 ch a b
  | dsamp ch r =>
    simp only [decode, encode, opField_commandWord]
    exact decodeDsamp_commandWord 0x3 ch r
  | reservedC low => simp only [decode, encode, opField_reserved, lowField_reserved]; rfl
  | reservedD low => simp only [decode, encode, opField_reserved, lowField_reserved]; rfl
  | reservedE low => simp only [decode, encode, opField_reserved, lowField_reserved]; rfl
  | reservedF low => simp only [decode, encode, opField_reserved, lowField_reserved]; rfl

/-- Settles O1: every constructor's word decodes to it. -/
theorem decodeInvertsEncode : Obligations.DecodeInvertsEncode := decode_encode

/-! ### Encoding what was decoded (R45, R47) -/

section
variable {w : Word} {op : Nat}

theorem opField_eq_ofNat (hop : (opField w).toNat = op) : opField w = BitVec.ofNat 4 op := by
  rw [← hop, BitVec.ofNat_toNat, BitVec.setWidth_eq]

theorem commandWord_of_opField (hop : (opField w).toNat = op) :
    commandWord (BitVec.ofNat 4 op) (chField w) (dataField w) = w := by
  rw [← opField_eq_ofNat hop, commandWord_fields]

theorem reserved_of_opField (hop : (opField w).toNat = op) : (BitVec.ofNat 4 op ++ lowField w : Word) = w := by
  rw [← opField_eq_ofNat hop, reserved_fields]

theorem encode_of_decodePlain {i j : Instr} (hop : (opField w).toNat = op)
    (hi : encode i = commandWord (BitVec.ofNat 4 op) 0 0) (h : decodePlain w i = .ok j) : encode j = w := by
  obtain ⟨rfl, hch, hdata⟩ := decodePlain_ok.1 h
  rw [hi, ← hch, ← hdata, commandWord_of_opField hop]

theorem encode_of_decodeQdec {i : Instr} (hop : (opField w).toNat = 2) (h : decodeQdec w = .ok i) : encode i = w := by
  unfold decodeQdec at h
  split at h
  · cases h
  · next hz =>
    cases h
    rw [encode, qdecData _ (not_not.1 hz)]
    exact commandWord_of_opField hop

theorem encode_of_decodeDsamp {i : Instr} (hop : (opField w).toNat = 3) (h : decodeDsamp w = .ok i) :
    encode i = w := by
  unfold decodeDsamp at h
  split at h
  · cases h
  · next hz =>
    cases h
    rw [encode, dsampData _ (not_not.1 hz)]
    exact commandWord_of_opField hop

/-- Each field decoder accepts only the word made of the operation code and the operands it reads. -/
theorem encode_of_decode {i : Instr} (h : decode w = .ok i) : encode i = w := by
  unfold decode at h
  split at h
  case h_1 hop => exact encode_of_decodePlain hop rfl h
  case h_2 hop => exact encode_of_decodePlain hop rfl h
  case h_3 hop => exact encode_of_decodeQdec hop h
  case h_4 hop => exact encode_of_decodeDsamp hop h
  case h_5 hop => exact encode_of_decodePlain hop rfl h
  case h_6 hop => exact encode_of_decodePlain hop rfl h
  case h_7 hop => exact encode_of_decodePlain hop rfl h
  case h_8 hop => exact encode_of_decodePlain hop rfl h
  case h_9 hop => exact encode_of_decodePlain hop rfl h
  case h_10 hop => exact encode_of_decodePlain hop rfl h
  case h_11 hop => exact encode_of_decodePlain hop rfl h
  case h_12 hop => exact encode_of_decodePlain hop rfl h
  case h_13 hop => cases h; exact reserved_of_opField hop
  case h_14 hop => cases h; exact reserved_of_opField hop
  case h_15 hop => cases h; exact reserved_of_opField hop
  case h_16 =>
    have hop : (opField w).toNat = 15 := by
      have := (opField w).isLt
      simp only [imp_false] at *
      omega
    cases h
    exact reserved_of_opField hop

theorem decode_eq_ok_iff {i : Instr} : decode w = .ok i ↔ encode i = w :=
  ⟨encode_of_decode, fun h => h ▸ decode_encode i⟩

/-- The operation codes 0xC to 0xF leave nothing of the word to check (R48). -/
theorem eq_encode_reserved (h : 12 ≤ (opField w).toNat) :
    w = encode (.reservedC (lowField w)) ∨ w = encode (.reservedD (lowField w)) ∨
    w = encode (.reservedE (lowField w)) ∨ w = encode (.reservedF (lowField w)) := by
  have hlt := (opField w).isLt
  obtain hop | hop | hop | hop : (opField w).toNat = 12 ∨ (opField w).toNat = 13 ∨ (opField w).toNat = 14 ∨
      (opField w).toNat = 15 := by omega
  · exact .inl (reserved_of_opField hop).symm
  · exact .inr (.inl (reserved_of_opField hop).symm)
  · exact .inr (.inr (.inl (reserved_of_opField hop).symm))
  · exact .inr (.inr (.inr (reserved_of_opField hop).symm))

end

/-- Settles O2: no field decoder accepts two words for one command. -/
theorem decodedWordIsTheEncoding : Obligations.DecodedWordIsTheEncoding := fun _ _ => encode_of_decode

/-! ### The opcode map (R47, R48) -/

/-- The row of a command's mnemonic selects the command's word. -/
theorem selects_encode (i : Instr) : ∃ r ∈ opcodeMap, r.mnemonic = i.mnemonic ∧ r.selects (encode i) = true := by
  cases i with
  | nop => exact Laws.OwnRow.nop
  | poll => exact Laws.OwnRow.poll
  | qdec ch a b => exact Laws.OwnRow.qdec ch a b
  | dsamp ch r => exact Laws.OwnRow.dsamp ch r
  | emit => exact Laws.OwnRow.emit
  | ctick => exact Laws.OwnRow.ctick
  | start => exact Laws.OwnRow.start
  | stop => exact Laws.OwnRow.stop
  | advertise => exact Laws.OwnRow.advertise
  | linkUp => exact Laws.OwnRow.linkUp
  | linkDown => exact Laws.OwnRow.linkDown
  | clrstat => exact Laws.OwnRow.clrstat
  | reservedC low => exact Laws.OwnRow.reservedC low
  | reservedD low => exact Laws.OwnRow.reservedD low
  | reservedE low => exact Laws.OwnRow.reservedE low
  | reservedF low => exact Laws.OwnRow.reservedF low

theorem opcodeMap_mnemonic_injective :
    ∀ r ∈ opcodeMap, ∀ r' ∈ opcodeMap, r.mnemonic = r'.mnemonic → r = r' := by decide

section
variable {w : Word}

/-- A row without operands fixes the whole word. -/
theorem eq_of_and_fullMask {p : Word} (h : w &&& 0xFFFF = p) : p = w :=
  h.symm.trans BitVec.and_allOnes

theorem opField_and (w m : Word) : opField (w &&& m) = opField w &&& opField m := BitVec.extractLsb'_and

theorem dataField_and (w m : Word) : dataField (w &&& m) = dataField w &&& dataField m := BitVec.extractLsb'_and

/-- A mask that keeps all of OP fixes the operation code. -/
theorem opField_of_and {m p : Word} (hm : opField m = 0xF) (h : w &&& m = p) : opField w = opField p := by
  rw [← h, opField_and, hm]
  exact BitVec.and_allOnes.symm

theorem exists_qdec_of_and (h : w &&& 0xF0FC = 0x2000) : ∃ ch a b, encode (.qdec ch a b) = w := by
  have hop : opField w = 0x2 := opField_of_and rfl h
  have hdata : dataField w &&& 0xFC = 0 := (dataField_and w 0xF0FC).symm.trans (congrArg dataField h)
  have hzero : ∀ d : Byte, d &&& 0xFC = 0 → d.extractLsb' 2 6 = 0 := by decide
  refine ⟨chField w, (dataField w).getLsbD 1, (dataField w).getLsbD 0, ?_⟩
  rw [encode, qdecData _ (hzero _ hdata), ← hop, commandWord_fields]

theorem exists_dsamp_of_and (h : w &&& 0xF0FE = 0x3000) : ∃ ch r, encode (.dsamp ch r) = w := by
  have hop : opField w = 0x3 := opField_of_and rfl h
  have hdata : dataField w &&& 0xFE = 0 := (dataField_and w 0xF0FE).symm.trans (congrArg dataField h)
  have hzero : ∀ d : Byte, d &&& 0xFE = 0 → d.extractLsb' 1 7 = 0 := by decide
  refine ⟨chField w, (dataField w).getLsbD 0, ?_⟩
  rw [encode, dsampData _ (hzero _ hdata), ← hop, commandWord_fields]

/-- A reserved row fixes the operation code and nothing else. -/
theorem reserved_of_and {op : Nibble} {p : Word} (hp : opField p = op) (h : w &&& 0xF000 = p) :
    (op ++ lowField w : Word) = w := by
  rw [← hp, ← opField_of_and rfl h, reserved_fields]

/-- A row selects only words of its own command. -/
theorem exists_encode_of_selects {r : OpcodeRow} (hr : r ∈ opcodeMap) (h : r.selects w = true) :
    ∃ i, encode i = w ∧ i.mnemonic = r.mnemonic := by
  replace h : w &&& r.mask = r.pattern := beq_iff_eq.1 h
  simp only [opcodeMap, List.cons_append, List.nil_append, List.mem_cons, List.not_mem_nil, or_false] at hr
  obtain rfl | rfl | rfl | rfl | rfl | rfl | rfl | rfl | rfl | rfl | rfl | rfl | rfl | rfl | rfl | rfl := hr
  · exact ⟨.nop, eq_of_and_fullMask h, rfl⟩
  · exact ⟨.poll, eq_of_and_fullMask h, rfl⟩
  · obtain ⟨ch, a, b, hw⟩ := exists_qdec_of_and h
    exact ⟨.qdec ch a b, hw, rfl⟩
  · obtain ⟨ch, r, hw⟩ := exists_dsamp_of_and h
    exact ⟨.dsamp ch r, hw, rfl⟩
  · exact ⟨.emit, eq_of_and_fullMask h, rfl⟩
  · exact ⟨.ctick, eq_of_and_fullMask h, rfl⟩
  · exact ⟨.start, eq_of_and_fullMask h, rfl⟩
  · exact ⟨.stop, eq_of_and_fullMask h, rfl⟩
  · exact ⟨.advertise, eq_of_and_fullMask h, rfl⟩
  · exact ⟨.linkUp, eq_of_and_fullMask h, rfl⟩
  · exact ⟨.linkDown, eq_of_and_fullMask h, rfl⟩
  · exact ⟨.clrstat, eq_of_and_fullMask h, rfl⟩
  · exact ⟨.reservedC (lowField w), reserved_of_and rfl h, rfl⟩
  · exact ⟨.reservedD (lowField w), reserved_of_and rfl h, rfl⟩
  · exact ⟨.reservedE (lowField w), reserved_of_and rfl h, rfl⟩
  · exact ⟨.reservedF (lowField w), reserved_of_and rfl h, rfl⟩

theorem selects_iff_decode {r : OpcodeRow} (hr : r ∈ opcodeMap) :
    r.selects w = true ↔ ∃ i, decode w = .ok i ∧ i.mnemonic = r.mnemonic := by
  constructor
  · intro h
    obtain ⟨i, hw, hm⟩ := exists_encode_of_selects hr h
    exact ⟨i, decode_eq_ok_iff.2 hw, hm⟩
  · rintro ⟨i, hi, hm⟩
    obtain ⟨r', hr', hm', hs⟩ := selects_encode i
    obtain rfl := opcodeMap_mnemonic_injective r' hr' r hr (hm'.trans hm)
    rwa [← encode_of_decode hi]

theorem selects_unique {r r' : OpcodeRow} (hr : r ∈ opcodeMap) (hr' : r' ∈ opcodeMap) (h : r.selects w = true)
    (h' : r'.selects w = true) : r = r' := by
  obtain ⟨i, hi, hm⟩ := (selects_iff_decode hr).1 h
  obtain ⟨i', hi', hm'⟩ := (selects_iff_decode hr').1 h'
  obtain rfl : i = i' := Except.ok.inj (hi.symm.trans hi')
  exact opcodeMap_mnemonic_injective r hr r' hr' (hm.symm.trans hm')

theorem decode_error_iff : (∃ m, decode w = .error m) ↔ ∀ r ∈ opcodeMap, r.selects w = false := by
  constructor
  · rintro ⟨m, hm⟩ r hr
    rw [← Bool.not_eq_true, selects_iff_decode hr]
    simp [hm]
  · intro h
    cases hd : decode w with
    | error m => exact ⟨m, rfl⟩
    | ok i =>
      obtain ⟨r, hr, -, hs⟩ := selects_encode i
      rw [encode_of_decode hd, h r hr] at hs
      cases hs

end

/-- Settles O3: a row selects the words of its command, the mnemonics of the rows differ, and every command has a row. -/
theorem opcodeRowsSelectWords : Obligations.OpcodeRowsSelectWords :=
  ⟨fun _ _ => selects_iff_decode, fun _ _ hr _ hr' => selects_unique hr hr', fun _ => decode_error_iff⟩

/-! ### Words written out (R45, R52) -/

/-- Settles O4: evaluation of the decoder on the fixed words. -/
theorem specWordsDecode : Obligations.SpecWordsDecode := by
  unfold Obligations.SpecWordsDecode
  decide

/-- Settles O5: a word is its fields, weighted by their positions. -/
theorem assembledOperandWords : Obligations.AssembledOperandWords := by
  unfold Obligations.AssembledOperandWords
  constructor
  · intro ch a b
    simp only [encode, commandWord_toNat, append_toNat, BitVec.toNat_ofBool, BitVec.ofNat_eq_ofNat, BitVec.toNat_ofNat]
    omega
  · intro ch r
    simp only [encode, commandWord_toNat, append_toNat, BitVec.toNat_ofBool, BitVec.ofNat_eq_ofNat, BitVec.toNat_ofNat]
    omega

end Sys2Proof

namespace Sys2Proof.Machine

variable {s : State}

/-! ### A bad word (R48 to R50) -/

theorem exec_qdec_outOfRange {ch : Nibble} (a b : Bool) (h : s.cfg.ne ≤ ch.toNat) :
    exec (.qdec ch a b) s = .next s.badCmd :=
  if_pos (Nat.not_lt.2 h)

theorem exec_dsamp_outOfRange {ch : Nibble} (r : Bool) (h : s.cfg.nch ≤ ch.toNat) :
    exec (.dsamp ch r) s = .next s.badCmd :=
  if_pos (Nat.not_lt.2 h)

/-- Settles O9: a reserved command is BadCmd by definition, and the range check comes first in QDEC and DSAMP. -/
theorem reservedAndOutOfRangeCommands : Obligations.ReservedAndOutOfRangeCommands :=
  fun _ => ⟨fun _ => rfl, fun _ => rfl, fun _ => rfl, fun _ => rfl,
    fun _ a b => exec_qdec_outOfRange a b, fun _ r => exec_dsamp_outOfRange r⟩

theorem step_of_runWord {t : State} (hw : s.cfg.wf = true) (hr : s.ports.rst = false)
    (h : runWord s.ports.cmd s = .next t) : step s = .next t.consumed := by
  simp [step, endStep, hw, hr, h]

theorem runWord_encode {w : Word} {i : Instr} (h : w = encode i) : runWord w s = exec i s := by
  simp [runWord, h]

theorem runWord_of_malformed {w : Word} (h : ∃ m, decode w = .error m) : runWord w s = .next s.badCmd := by
  obtain ⟨m, hm⟩ := h
  simp [runWord, hm]

theorem runWord_reserved {w : Word} (h : 12 ≤ (opField w).toNat) : runWord w s = .next s.badCmd := by
  obtain hw | hw | hw | hw := eq_encode_reserved h <;> exact runWord_encode hw

/-- Settles O8: each kind of bad word runs as BadCmd, and the end of the step consumes the sample. -/
theorem badWordOnlySetsBadcmd : Obligations.BadWordOnlySetsBadcmd := by
  unfold Obligations.BadWordOnlySetsBadcmd
  intro s hw hr hbad
  have hrun : runWord s.ports.cmd s = .next s.badCmd := by
    obtain hop | hno | ⟨ch, a, b, hcmd, hch⟩ | ⟨ch, r, hcmd, hch⟩ := hbad
    · exact runWord_reserved (by rwa [opField_toNat])
    · exact runWord_of_malformed (decode_error_iff.2 hno)
    · exact (runWord_encode hcmd).trans (exec_qdec_outOfRange a b hch)
    · exact (runWord_encode hcmd).trans (exec_dsamp_outOfRange r hch)
  exact step_of_runWord hw hr hrun

end Sys2Proof.Machine

/-! SUPPORT. Proofs of the statements of 40_quadrature_decoder.md: what a QDEC does, the two transition tables, the
accumulator's wrap, and runs of samples. -/

namespace Sys2Proof

theorem Config.encW_pos {cfg : Config} (hw : cfg.wf = true) : 1 ≤ cfg.encW := by
  obtain ⟨-, -, -, -, -, -, ⟨he, -⟩, -⟩ := cfg.wf_iff.1 hw
  exact le_trans (by decide) he

end Sys2Proof

namespace Sys2Proof.Machine

variable {s t : State}

/-! ### A QDEC that decodes (R55, R60) -/

/-- The next state of a QDEC in range outside STOPPED that stores `code` in channel `j` and counts `d`. -/
def State.afterQdec (s : State) (j : Nat) (code : Code) (d : Int) : State :=
  { s with
    qPrev := s.qPrev.set j code
    qSeeded := s.qSeeded.set j true
    encoders := s.encoders.set j (s.accumulate j d)
    dirty := s.dirty || d != 0
    events := []
    resp := BitVec.ofInt 16 d }

theorem exec_qdec_decodes {ch : Nibble} (a b : Bool) (hj : ch.toNat < s.cfg.ne) (hl : s.life ≠ .stopped) :
    exec (.qdec ch a b) s =
      .next (s.afterQdec ch.toNat (packCode a b) (s.decodeStep ch.toNat (packCode a b)).delta) := by
  obtain ⟨t, ht⟩ := exec_completes (.qdec ch a b) s
  obtain ⟨hge, -⟩ | ⟨-, hst, -⟩ | ⟨-, -, rfl⟩ := exec_qdec_cases ht
  · omega
  · exact absurd hst hl
  · exact ht

theorem decodeStep_delta (s : State) (j : Nat) (code : Code) :
    (s.decodeStep j code).delta =
      if s.seeded j = false ∨ code = s.prevCode j then 0 else transition s.cfg.qdecMode (s.prevCode j) code :=
  qstep_delta ..

section
variable {j : Nat} (hs : s.Shape) (hj : j < s.cfg.ne) (code : Code) (d : Int) (k : Nat)
include hs

theorem State.Shape.afterQdec : (s.afterQdec j code d).Shape :=
  { hs with
    encoders := (List.length_set ..).trans hs.encoders
    qPrev := (List.length_set ..).trans hs.qPrev
    qSeeded := (List.length_set ..).trans hs.qSeeded }

include hj

theorem afterQdec_prevCode : (s.afterQdec j code d).prevCode k = if k = j then code else s.prevCode k :=
  getD_set _ _ _ _ _ (hs.qPrev ▸ hj)

theorem afterQdec_seeded : (s.afterQdec j code d).seeded k = if k = j then true else s.seeded k :=
  getD_set _ _ _ _ _ (hs.qSeeded ▸ hj)

theorem afterQdec_encoder :
    (s.afterQdec j code d).encoder k = if k = j then s.accumulate j d else s.encoder k :=
  getD_set _ _ _ _ _ (hs.encoders ▸ hj)

end

/-- Settles O26: QDEC writes the record of channel `j` alone, with the delta of the decode step. -/
theorem qdecDecodesOneSample : Obligations.QdecDecodesOneSample := by
  unfold Obligations.QdecDecodesOneSample
  intro s ch a b hs hj hl j code d
  have hd : (s.decodeStep j code).delta = d := decodeStep_delta s j code
  refine ⟨s.afterQdec j code d, hd ▸ exec_qdec_decodes a b hj hl, ?_, ?_, ?_, fun k hk => ⟨?_, ?_, ?_⟩,
    hs.afterQdec code d, rfl, rfl, rfl, rfl⟩
  · rw [afterQdec_prevCode hs hj, if_pos rfl]
  · rw [afterQdec_seeded hs hj, if_pos rfl]
  · rw [afterQdec_encoder hs hj, if_pos rfl, State.accumulate]
  · rw [afterQdec_prevCode hs hj, if_neg hk]
  · rw [afterQdec_seeded hs hj, if_neg hk]
  · rw [afterQdec_encoder hs hj, if_neg hk]

/-! ### No delta, no movement (R55, R59) -/

/-- An accumulator that holds an ENC_W-bit value does not move on a delta of 0 (10_state.md R17). -/
theorem State.Inv.accumulate_zero (h : s.Inv) {j : Nat} (hj : j < s.cfg.ne) : s.accumulate j 0 = s.encoder j := by
  rw [State.accumulate, add_zero]
  exact (h.encoders j hj).symm

theorem State.Inv.set_accumulate_zero (h : s.Inv) {j : Nat} (hj : j < s.cfg.ne) :
    s.encoders.set j (s.accumulate j 0) = s.encoders := by
  have hlen : j < s.encoders.length := h.shape.encoders ▸ hj
  rw [h.accumulate_zero hj, State.encoder, List.getD_eq_getElem _ _ hlen, List.set_getElem_self]

/-- Settles O27: the delta is 0, so the sum is the accumulator itself and `dirty` is kept. -/
theorem seedAndRepeatGiveNoDelta : Obligations.SeedAndRepeatGiveNoDelta := by
  unfold Obligations.SeedAndRepeatGiveNoDelta
  intro s ch a b h hj hl hsame
  have hd : (s.decodeStep ch.toNat (packCode a b)).delta = 0 := by
    rw [decodeStep_delta, if_pos (hsame.imp_right Eq.symm)]
  rw [exec_qdec_decodes a b hj hl, hd, State.afterQdec, h.set_accumulate_zero hj]
  simp

/-! ### The transition tables (R56, R57) -/

/-- The GRAY table: the successor counts up, the predecessor down, nothing else counts. -/
theorem transition_gray (p c : Code) :
    transition .gray p c = if c = graySucc p then 1 else if p = graySucc c then -1 else 0 := by
  revert p c; decide

theorem transition_gray_of_not_adjacent {p c : Code} (h : ¬ grayAdjacent p c) : transition .gray p c = 0 := by
  obtain ⟨hfwd, hrev⟩ := not_or.1 h
  rw [transition_gray, if_neg hfwd, if_neg hrev]

theorem transition_gray_graySucc (p : Code) : transition .gray p (graySucc p) = 1 := by
  rw [transition_gray, if_pos rfl]

theorem transition_gray_of_graySucc (c : Code) : transition .gray (graySucc c) c = -1 := by
  revert c; decide

/-- The SOURCE_01_10 table looks at the new code alone: bit 0 counts up, bit 1 down, and both cancel. -/
theorem transition_source0110 {p : Code} {a b : Bool} (h : p ≠ packCode a b) :
    transition .source0110 p (packCode a b) = (b.toNat : Int) - a.toNat := by
  revert p a b; decide

/-- A QDEC of a seeded channel on a code other than the stored one counts the table entry `d` (R55, R58 to R60). -/
theorem exec_qdec_of_changed {ch : Nibble} {a b : Bool} {d : Int} (hs : s.Shape) (hj : ch.toNat < s.cfg.ne)
    (hl : s.life ≠ .stopped) (hseed : s.seeded ch.toNat = true) (hne : s.prevCode ch.toNat ≠ packCode a b)
    (hd : transition s.cfg.qdecMode (s.prevCode ch.toNat) (packCode a b) = d) :
    ∃ t, exec (.qdec ch a b) s = .next t ∧ t.prevCode ch.toNat = packCode a b ∧ t.resp = BitVec.ofInt 16 d ∧
      t.dirty = (s.dirty || d != 0) ∧ t.encoder ch.toNat = wrapEnc s.cfg.encW ((s.encoder ch.toNat).toInt + d) := by
  obtain ⟨t, hx, hprev, -, henc, -, -, hdirty, hresp, -⟩ := qdecDecodesOneSample s ch a b hs hj hl
  have hcounts : ¬ (s.seeded ch.toNat = false ∨ packCode a b = s.prevCode ch.toNat) := by simp [hseed, hne.symm]
  rw [if_neg hcounts, hd] at henc hdirty hresp
  exact ⟨t, hx, hprev, hresp, hdirty, henc⟩

/-- Settles O28: the table entry is 1, -1 or 0 by where the new code stands on the cycle. -/
theorem grayTransitions : Obligations.GrayTransitions := by
  unfold Obligations.GrayTransitions
  intro s ch a b hs hj hl hm hseed hne
  obtain ⟨t, hx, hprev, hresp, hdirty, henc⟩ := exec_qdec_of_changed hs hj hl hseed hne rfl
  rw [hm] at hresp hdirty henc
  refine ⟨t, hx, hprev, fun hfwd => ?_, fun hrev => ?_, fun hjump => ?_⟩
  · rw [hfwd, transition_gray_graySucc] at hresp henc
    exact ⟨hresp, henc⟩
  · rw [hrev, transition_gray_of_graySucc] at hresp henc
    exact ⟨hresp, henc⟩
  · rw [transition_gray_of_not_adjacent hjump] at hresp hdirty henc
    exact ⟨hresp, by simpa using hdirty, by simpa using henc⟩

/-- Settles O29: the table entry depends on the two bits of the new code alone. -/
theorem sourceModeTransitions : Obligations.SourceModeTransitions := by
  unfold Obligations.SourceModeTransitions
  intro s ch a b hs hj hl hm hseed hne
  obtain ⟨t, hx, hprev, hresp, hdirty, henc⟩ := exec_qdec_of_changed hs hj hl hseed hne rfl
  rw [hm, transition_source0110 hne] at hresp hdirty henc
  refine ⟨t, hx, hprev, ?_, ?_, ?_⟩
  · rintro ⟨rfl, rfl⟩
    exact ⟨hresp, henc⟩
  · rintro ⟨rfl, rfl⟩
    exact ⟨hresp, henc⟩
  · rintro rfl
    rw [sub_self] at hresp hdirty henc
    exact ⟨hresp, by simpa using hdirty, by simpa using henc⟩

/-! ### The accumulator's range (R58) -/

/-- Reduction to the signed range of `2 * half` values, one step past either end of it. -/
theorem add_bmod_of_step {half : Nat} {n d : Int} (hn : n < half) (hn' : -half ≤ n) (hd : -1 ≤ d) (hd' : d ≤ 1) :
    (n + d).bmod (2 * half) =
      if n + d = half then -(half : Int) else if n + d = -half - 1 then half - 1 else n + d := by
  split
  case isTrue htop =>
    have hshift : n + d = -half + (2 * half : Nat) := by omega
    rw [hshift, Int.add_bmod_right]
    apply Int.bmod_eq_of_le <;> omega
  case isFalse htop =>
    split
    case isTrue hbot =>
      have hshift : n + d = (half - 1) - (2 * half : Nat) := by omega
      rw [hshift, Int.sub_bmod_right]
      apply Int.bmod_eq_of_le <;> omega
    case isFalse hbot => apply Int.bmod_eq_of_le <;> omega

/-- An accumulator is in the signed ENC_W-bit range (10_state.md R17). -/
theorem State.Inv.encoder_range (h : s.Inv) {j : Nat} (hj : j < s.cfg.ne) :
    (s.encoder j).toInt < 2 ^ (s.cfg.encW - 1) ∧ -2 ^ (s.cfg.encW - 1) ≤ (s.encoder j).toInt := by
  have hval : (s.encoder j).toInt = (BitVec.ofInt s.cfg.encW (s.encoder j).toInt).toInt := by
    conv_lhs => rw [h.encoders j hj, wrapEnc, BitVec.toInt_signExtend_of_le (Config.encW_le h.config)]
  rw [hval]
  exact ⟨BitVec.toInt_lt, BitVec.le_toInt _⟩

/-- Settles O30: the sum leaves the range by at most one, so it wraps to the other end. -/
theorem accumulatorWrapsAtItsWidth : Obligations.AccumulatorWrapsAtItsWidth := by
  unfold Obligations.AccumulatorWrapsAtItsWidth
  intro s j d h hj hd hd' half n
  obtain ⟨hn, hn'⟩ := h.encoder_range hj
  refine ⟨hn, hn', ?_⟩
  have hpow : 2 ^ s.cfg.encW = 2 * 2 ^ (s.cfg.encW - 1) := by
    rw [← pow_succ', Nat.sub_add_cancel (Config.encW_pos h.config)]
  rw [State.accumulate, wrapEnc_toInt _ (Config.encW_le h.config), hpow, add_bmod_of_step _ _ hd hd'] <;>
    push_cast
  · rfl
  · exact hn
  · exact hn'

/-! ### What moves an accumulator (R61 (a), R69) -/

/-- The two commands that write the accumulators (10_state.md R14). -/
theorem eq_poll_or_qdec {i : Instr} (h : i.mnemonic ∈ ["POLL", "QDEC"]) : i = .poll ∨ ∃ ch a b, i = .qdec ch a b := by
  cases i with
  | poll => exact .inl rfl
  | qdec ch a b => exact .inr ⟨ch, a, b, rfl⟩
  | _ => simp [Instr.mnemonic] at h

/-- A POLL leaves an accumulator or counts the code its channel then stores (R69). -/
theorem exec_poll_encoder (hs : s.Shape) (h : exec .poll s = .next t) (j : Nat) :
    t.encoder j = s.encoder j ∨
      j < s.cfg.ne ∧ t.encoder j = s.accumulate j (s.decodeStep j (t.prevCode j)).delta := by
  obtain ⟨-, rfl⟩ | ⟨-, rfl⟩ := exec_poll_cases h
  · exact .inl rfl
  · by_cases hj : j < s.cfg.ne
    · have hprev : (s.pollDecode.map QStep.prev).getD j 0 = s.pinCode j := by
        rw [State.pollDecode, map_perChannel, perChannel_getD _ _ hj, State.decodeStep, qstep_prev]
      refine .inr ⟨hj, (perChannel_getD _ _ hj).trans ?_⟩
      exact congrArg (fun code => s.accumulate j (s.decodeStep j code).delta) hprev.symm
    · have hge : s.cfg.ne ≤ j := Nat.le_of_not_lt hj
      exact .inl ((perChannel_getD_ge _ _ hge).trans (List.getD_eq_default _ _ (hs.encoders ▸ hge)).symm)

/-- A QDEC leaves an accumulator or counts the code its channel then stores (R60). -/
theorem exec_qdec_encoder {ch : Nibble} {a b : Bool} (hs : s.Shape) (h : exec (.qdec ch a b) s = .next t) (j : Nat) :
    t.encoder j = s.encoder j ∨
      j < s.cfg.ne ∧ t.encoder j = s.accumulate j (s.decodeStep j (t.prevCode j)).delta := by
  obtain ⟨-, rfl⟩ | ⟨-, -, rfl⟩ | ⟨hch, hl, -⟩ := exec_qdec_cases h
  · exact .inl rfl
  · exact .inl rfl
  · obtain rfl := Host.Outcome.next.inj (h.symm.trans (exec_qdec_decodes a b hch hl))
    rw [afterQdec_encoder hs hch, afterQdec_prevCode hs hch]
    by_cases hj : j = ch.toNat
    · subst hj
      simp [hch]
    · simp [hj]

/-- An accumulator that moves in a step takes the delta of the code its channel then stores. -/
theorem step_moves_encoder {j : Nat} (hs : s.Shape) (h : step s = .next t) (hr : s.ports.rst = false)
    (hmove : t.encoder j ≠ s.encoder j) :
    j < s.cfg.ne ∧ t.encoder j = s.accumulate j (s.decodeStep j (t.prevCode j)).delta := by
  obtain ⟨-, -, hwriters, -⟩ := fieldsHaveOnlyTheirWriters s t h hr
  obtain ⟨i, hi, hmem⟩ := hwriters fun he => hmove (congrArg (List.getD · j 0) he)
  obtain ⟨hw, -⟩ := step_cases h
  obtain ⟨u, hu⟩ := exec_completes i s
  rw [step_of_decode hw hr hi, hu] at h
  obtain rfl : u.consumed = t := Host.Outcome.next.inj h
  obtain rfl | ⟨ch, a, b, rfl⟩ := eq_poll_or_qdec hmem
  · exact (exec_poll_encoder hs hu j).resolve_left hmove
  · exact (exec_qdec_encoder hs hu j).resolve_left hmove

/-- Settles O31: an unseeded channel, a repeated code and a non-adjacent one all have delta 0, which moves nothing. -/
theorem onlyAdjacentCodesCount : Obligations.OnlyAdjacentCodesCount := by
  unfold Obligations.OnlyAdjacentCodesCount
  intro s t j h hm hstep hr hmove
  obtain ⟨hj, henc⟩ := step_moves_encoder h.shape hstep hr hmove
  have hdelta : (s.decodeStep j (t.prevCode j)).delta ≠ 0 := fun hzero =>
    hmove (by rw [henc, hzero, h.accumulate_zero hj])
  rw [decodeStep_delta, hm] at hdelta
  obtain ⟨hchanged, htable⟩ := ite_ne_left_iff.1 hdelta
  refine ⟨eq_true_of_ne_false fun hseed => hchanged (.inl hseed), ?_⟩
  by_contra hjump
  exact htable (transition_gray_of_not_adjacent hjump).symm

/-! ### Runs of samples (R55, R61) -/

theorem decodeRun_append (m : QdecMode) (p : Code) (xs ys : List Code) :
    decodeRun m p (xs ++ ys) =
      ((decodeRun m (decodeRun m p xs).1 ys).1, (decodeRun m p xs).2 + (decodeRun m (decodeRun m p xs).1 ys).2) := by
  induction xs generalizing p with
  | nil => simp [decodeRun]
  | cons c cs ih => simp [decodeRun, ih, add_assoc]

/-- A run that returns to the code it began with adds the same sum each time it is repeated. -/
theorem decodeRun_replicate {m : QdecMode} {p : Code} {cycle : List Code} {n : Int} (h : decodeRun m p cycle = (p, n))
    (k : Nat) : decodeRun m p (List.replicate k cycle).flatten = (p, k * n) := by
  induction k with
  | zero => simp [decodeRun]
  | succ k ih =>
    rw [List.replicate_succ, List.flatten_cons, decodeRun_append, h, ih, Nat.cast_succ, add_one_mul, add_comm]

/-- One cycle in both directions and both modes, from each of the four codes. -/
theorem decodeRun_cycle (p : Code) :
    let p1 := graySucc p
    let p2 := graySucc p1
    let p3 := graySucc p2
    decodeRun .gray p [p1, p2, p3, p] = (p, 4) ∧ decodeRun .gray p [p3, p2, p1, p] = (p, -4) ∧
    decodeRun .source0110 p [p1, p2, p3, p] = (p, 0) ∧ decodeRun .source0110 p [p3, p2, p1, p] = (p, 0) := by
  revert p; decide

/-- Settles O32: `k` repetitions of the sum of one cycle. -/
theorem fullCyclesCount : Obligations.FullCyclesCount := by
  unfold Obligations.FullCyclesCount
  intro p k p1 p2 p3
  obtain ⟨hfwd, hrev, hfwd', hrev'⟩ := decodeRun_cycle p
  refine ⟨?_, ?_, ?_, ?_⟩
  · rw [decodeRun_replicate hfwd, mul_comm]
  · rw [decodeRun_replicate hrev, mul_neg, mul_comm]
  · rw [decodeRun_replicate hfwd', mul_zero]
  · rw [decodeRun_replicate hrev', mul_zero]

/-- A sample that misses no transition counts its movement on the cycle, modulo 4 (R56). -/
theorem qstep_delta_mod_four {p c : Code} (h : c = p ∨ grayAdjacent p c) :
    ((qstep .gray p true c).delta - (grayIndex c - grayIndex p)) % 4 = 0 := by
  unfold grayAdjacent at h
  revert p c; decide

theorem decodeRun_cons (m : QdecMode) (p c : Code) (cs : List Code) :
    decodeRun m p (c :: cs) = ((decodeRun m c cs).1, (qstep m p true c).delta + (decodeRun m c cs).2) := by
  simp [decodeRun]

/-- The stored code is always the last one presented (R55). -/
theorem decodeRun_code (m : QdecMode) (p : Code) (codes : List Code) :
    (decodeRun m p codes).1 = (p :: codes).getLast (List.cons_ne_nil p codes) := by
  induction codes generalizing p with
  | nil => rfl
  | cons c cs ih => rw [decodeRun_cons, List.getLast_cons_cons, ← ih c]

/-- Settles O33: each sample keeps the count congruent to the position. -/
theorem fullySampledCountTracksPosition : Obligations.FullySampledCountTracksPosition := by
  unfold Obligations.FullySampledCountTracksPosition
  intro p codes hchain
  refine ⟨decodeRun_code .gray p codes, ?_⟩
  induction codes generalizing p with
  | nil => simp [decodeRun]
  | cons c cs ih =>
    obtain ⟨hc, hcs⟩ := List.isChain_cons_cons.1 hchain
    have hstep := qstep_delta_mod_four hc
    have hrest := ih c hcs
    rw [decodeRun_cons]
    dsimp only
    omega

end Sys2Proof.Machine

/-! SUPPORT. Proofs of the statements of 41_debounce_sampler.md: the debounce step as a filter, what a POLL and a DSAMP
write, and two DSAMPs in either order. -/

namespace Sys2Proof

theorem Config.axisStep_pos {cfg : Config} (hw : cfg.wf = true) : 1 ≤ cfg.axisStep := by
  obtain ⟨-, -, -, -, -, -, -, ha, -⟩ := cfg.wf_iff.1 hw
  exact ha

theorem Config.key_lt_nb {cfg : Config} (hw : cfg.wf = true) {c : Nat} (hc : c < cfg.nch)
    (hk : (cfg.channel c).kind = .key) : c < cfg.nb ∧ (cfg.channel c).arg ≠ 0 := by
  obtain ⟨-, hkey, -⟩ := cfg.wf_iff.1 hw
  exact hkey c hc hk

end Sys2Proof

namespace Sys2Proof.Machine

variable {s : State}

/-! ### Runs of levels through the debounce step (R64, R71 (e)) -/

section
variable {k n : Nat} {st : Bool}

/-- The n-th consecutive sample at the other level, before the K-th, is only counted. -/
theorem dbstep_counts (hk : k ≤ 15) (hn : n + 1 < k) :
    dbstep k st (BitVec.ofNat 4 n) (!st) = { stable := st, count := BitVec.ofNat 4 (n + 1) } := by
  have hcnt : (BitVec.ofNat 4 n).toNat = n := Nat.mod_eq_of_lt (by omega)
  rw [dbstep, if_neg (Bool.not_ne_self st), hcnt, if_neg (by omega)]
  exact congrArg (Debounce.mk st) (BitVec.ofNat_add n 1).symm

/-- The K-th consecutive sample at the other level is accepted. -/
theorem dbstep_accepts (hk : k ≤ 15) (hn : n + 1 = k) :
    dbstep k st (BitVec.ofNat 4 n) (!st) = { stable := !st, count := 0 } := by
  have hcnt : (BitVec.ofNat 4 n).toNat = n := Nat.mod_eq_of_lt (by omega)
  rw [dbstep, if_neg (Bool.not_ne_self st), hcnt, if_pos (by omega)]

theorem debounceRun_append (k : Nat) (d : Debounce) (xs ys : List Bool) :
    debounceRun k d (xs ++ ys) = debounceRun k (debounceRun k d xs) ys := by
  induction xs generalizing d with
  | nil => rfl
  | cons x xs ih => exact ih _

theorem debounceRun_replicate_lt (hk : k ≤ 15) (hn : n < k) :
    debounceRun k { stable := st, count := 0 } (List.replicate n !st) =
      { stable := st, count := BitVec.ofNat 4 n } := by
  induction n with
  | zero => rfl
  | succ n ih =>
    rw [List.replicate_succ', debounceRun_append, ih (by omega)]
    exact dbstep_counts hk hn

theorem debounceRun_replicate_self (hk : 1 ≤ k) (hk' : k ≤ 15) :
    debounceRun k { stable := st, count := 0 } (List.replicate k !st) = { stable := !st, count := 0 } := by
  obtain ⟨n, rfl⟩ : ∃ n, k = n + 1 := ⟨k - 1, by omega⟩
  rw [List.replicate_succ', debounceRun_append, debounceRun_replicate_lt hk' (by omega)]
  exact dbstep_accepts hk' rfl

/-- Settles O34: samples at the other level are counted up to the K-th, which is accepted. -/
theorem kthConsecutiveSampleIsAccepted : Obligations.KthConsecutiveSampleIsAccepted :=
  fun k st hk hk' => ⟨dbstep_same k st, fun _ => debounceRun_replicate_lt hk', debounceRun_replicate_self hk hk',
    fun cnt lvl _ => dbstep_count_lt st cnt lvl hk hk'⟩

/-- The count is the number of samples at the other level just before `lvls`: with them in front, `lvls` still has no K
in a row. -/
theorem debounceRun_stable_of_counted (hk : k ≤ 15) (lvls : List Bool) (hn : n < k)
    (h : ¬ List.replicate k (!st) <:+: List.replicate n (!st) ++ lvls) :
    (debounceRun k { stable := st, count := BitVec.ofNat 4 n } lvls).stable = st := by
  induction lvls generalizing n with
  | nil => rfl
  | cons lvl lvls ih =>
    obtain rfl | rfl : lvl = st ∨ lvl = !st := by cases lvl <;> cases st <;> simp
    · have hrest : ¬ List.replicate k (!lvl) <:+: List.replicate 0 (!lvl) ++ lvls := fun hin =>
        h (hin.trans ((List.suffix_cons lvl lvls).trans (List.suffix_append _ _)).isInfix)
      rw [debounceRun, dbstep_same]
      exact ih (n := 0) (by omega) hrest
    · have hmove : List.replicate n (!st) ++ (!st) :: lvls = List.replicate (n + 1) (!st) ++ lvls := by
        rw [List.replicate_succ', List.append_assoc, List.singleton_append]
      rw [hmove] at h
      have hlast : n + 1 ≠ k := by
        rintro rfl
        exact h ⟨[], lvls, rfl⟩
      rw [debounceRun, dbstep_counts hk (by omega)]
      exact ih (by omega) h

end

/-- Settles O35: before the sequence nothing is counted. -/
theorem shortBounceIsFiltered : Obligations.ShortBounceIsFiltered :=
  fun _ _ lvls hk hk' h => debounceRun_stable_of_counted (n := 0) hk' lvls hk h

/-! ### Levels and axis contributions (R63, R67) -/

theorem level_eq_ite (pol : Polarity) (raw : Bool) : level pol raw = if pol = .activeHigh then raw else !raw := by
  cases pol <;> rfl

theorem axisOf_eq_iff (arg : Byte) (axis : Axis) : axisOf arg = axis ↔ (arg.getLsbD 0 = true ↔ axis = .y) := by
  cases axis <;> simp [axisOf]

theorem signOf_mul (arg : Byte) (n : Int) : signOf arg * n = if arg.getLsbD 1 = true then -n else n := by
  unfold signOf
  split
  · exact neg_one_mul n
  · exact one_mul n

theorem axisContribution_eq_ite (cfg : Config) (axis : Axis) (st0 st1 : List Bool) (c : Nat) :
    axisContribution cfg axis st0 st1 c =
      if (cfg.channel c).kind = .axis ∧ ((cfg.channel c).arg.getLsbD 0 = true ↔ axis = .y) ∧
          st0.getD c false = false ∧ st1.getD c false = true
      then (if (cfg.channel c).arg.getLsbD 1 = true then -(cfg.axisStep : Int) else (cfg.axisStep : Int)) else 0 := by
  rw [axisContribution, signOf_mul]
  simp only [axisOf_eq_iff]

/-- Settles O37: the sum of the list of contributions is the sum over the channels. -/
theorem axisContributesOnPressOnly : Obligations.AxisContributesOnPressOnly := by
  unfold Obligations.AxisContributesOnPressOnly
  intro cfg axis st0 st1
  rw [axisSum, ← List.sum_toFinset _ List.nodup_range, List.toFinset_range]
  exact Finset.sum_congr rfl fun c _ => axisContribution_eq_ite cfg axis st0 st1 c

theorem axisSum_self (cfg : Config) (axis : Axis) (st : List Bool) : axisSum cfg axis st st = 0 :=
  axisSum_zero cfg axis st st fun _ _ _ h => h

/-! ### The change rule (R68) -/

theorem digitalChange_iff (s : State) (buttons : List Byte) (modifiers : Byte) (sx sy : Int) :
    digitalChange s buttons modifiers sx sy = true ↔
      buttons ≠ s.buttons ∨ modifiers ≠ s.modifiers ∨ sx ≠ 0 ∨ sy ≠ 0 := by
  simp [digitalChange, or_assoc]

theorem digitalChg_iff (s : State) (st : List Bool) :
    s.digitalChg st = true ↔ s.keyMapping st ≠ s.buttons ∨ modMapping s.cfg st ≠ s.modifiers ∨
      axisSum s.cfg .x s.dbStable st ≠ 0 ∨ axisSum s.cfg .y s.dbStable st ≠ 0 :=
  digitalChange_iff ..

/-! ### POLL (R69) -/

/-- The next state of a POLL outside STOPPED. -/
def State.afterPoll (s : State) : State :=
  ({ s.writeDigital (s.pollDebounce.map Debounce.stable) (s.pollDebounce.map Debounce.count) with
    qPrev := s.pollDecode.map QStep.prev
    qSeeded := s.pollDecode.map QStep.seeded
    encoders := perChannel s.cfg.ne fun j => s.accumulate j (s.decodeStep j (s.pinCode j)).delta }.markDirty
      s.pollChg).out [] (bitWord s.pollChg)

theorem exec_poll_samples (hl : s.life ≠ .stopped) : exec .poll s = .next s.afterPoll := if_neg hl

theorem afterPoll_shape (s : State) : s.afterPoll.Shape where
  buttons := perChannel_length ..
  encoders := perChannel_length ..
  qPrev := (List.length_map _).trans (perChannel_length ..)
  qSeeded := (List.length_map _).trans (perChannel_length ..)
  dbStable := (List.length_map _).trans (perChannel_length ..)
  dbCnt := (List.length_map _).trans (perChannel_length ..)

theorem afterPoll_stable {c : Nat} (hc : c < s.cfg.nch) :
    s.afterPoll.stable c = (s.debounceStep c (s.rawPin c)).stable := by
  show (s.pollDebounce.map Debounce.stable).getD c false = _
  rw [State.pollDebounce, map_perChannel, perChannel_getD _ _ hc]

theorem afterPoll_count {c : Nat} (hc : c < s.cfg.nch) :
    s.afterPoll.count c = (s.debounceStep c (s.rawPin c)).count := by
  show (s.pollDebounce.map Debounce.count).getD c 0 = _
  rw [State.pollDebounce, map_perChannel, perChannel_getD _ _ hc]

theorem afterPoll_prevCode {j : Nat} (hj : j < s.cfg.ne) :
    s.afterPoll.prevCode j = (s.decodeStep j (s.pinCode j)).prev := by
  show (s.pollDecode.map QStep.prev).getD j 0 = _
  rw [State.pollDecode, map_perChannel, perChannel_getD _ _ hj]

theorem afterPoll_seeded {j : Nat} (hj : j < s.cfg.ne) :
    s.afterPoll.seeded j = (s.decodeStep j (s.pinCode j)).seeded := by
  show (s.pollDecode.map QStep.seeded).getD j false = _
  rw [State.pollDecode, map_perChannel, perChannel_getD _ _ hj]

theorem afterPoll_encoder {j : Nat} (hj : j < s.cfg.ne) :
    s.afterPoll.encoder j = s.accumulate j (s.decodeStep j (s.pinCode j)).delta :=
  perChannel_getD _ _ hj

/-- Settles O36: each channel's entry is computed from the start of the step, and the mappings from the new levels. -/
theorem pollSamplesEveryChannel : Obligations.PollSamplesEveryChannel := by
  unfold Obligations.PollSamplesEveryChannel
  intro s hl
  refine ⟨s.afterPoll, exec_poll_samples hl, afterPoll_shape s, fun c hc => ?record, fun j hj => ?encoder,
    fun i hi => keyMapping_getD s _ hi, fun b hb => modMapping_getLsbD s.cfg _ b hb, sat8_toInt _, sat8_toInt _, rfl⟩
  case record =>
    rw [← level_eq_ite]
    exact ⟨afterPoll_stable hc, afterPoll_count hc⟩
  case encoder => exact ⟨afterPoll_prevCode hj, afterPoll_seeded hj, afterPoll_encoder hj⟩

theorem encoderChange_pollDecode_iff (s : State) :
    encoderChange (s.pollDecode.map QStep.delta) = true ↔
      ∃ j < s.cfg.ne, (s.decodeStep j (s.pinCode j)).delta ≠ 0 := by
  simp [encoderChange, State.pollDecode, perChannel]

theorem pollChg_iff (s : State) :
    s.pollChg = true ↔ s.afterPoll.buttons ≠ s.buttons ∨ s.afterPoll.modifiers ≠ s.modifiers ∨
      axisSum s.cfg .x s.dbStable s.afterPoll.dbStable ≠ 0 ∨
      axisSum s.cfg .y s.dbStable s.afterPoll.dbStable ≠ 0 ∨
      ∃ j < s.cfg.ne, (s.decodeStep j (s.pinCode j)).delta ≠ 0 := by
  rw [State.pollChg, Bool.or_eq_true, digitalChg_iff, encoderChange_pollDecode_iff]
  simp only [or_assoc]
  rfl

/-- Settles O38: the bit that POLL adds to `dirty` and answers is the change rule. -/
theorem pollReportsChange : Obligations.PollReportsChange := by
  unfold Obligations.PollReportsChange
  intro s t hl ht chg
  obtain rfl : s.afterPoll = t := by simpa [exec_poll_samples hl] using ht
  have hchg : s.pollChg = true ↔ chg := pollChg_iff s
  have hdirty : s.afterPoll.dirty = (s.dirty || s.pollChg) := rfl
  have hresp : s.afterPoll.resp = bitWord s.pollChg := rfl
  constructor
  · intro h
    rw [hdirty, hresp, hchg.2 h]
    exact ⟨Bool.or_true _, rfl⟩
  · intro h
    rw [hdirty, hresp, Bool.eq_false_iff.2 (mt hchg.1 h)]
    exact ⟨Bool.or_false _, rfl⟩

/-! ### Slots and modifiers as functions of the stable levels (R65, R66, R71 (c) and (d)) -/

theorem perChannel_getD_of_length {α : Type} {l : List α} {n : Nat} (d : α) (h : l.length = n) :
    perChannel n (fun i => l.getD i d) = l :=
  h ▸ perChannel_getD_self l d

section
variable {t : State} (hs : s.Inv) (ht : t.Inv) (hcfg : t.cfg = s.cfg)
include hs ht hcfg

/-- A slot moves only with the stable level of its KEY channel. -/
theorem State.Inv.button_congr {i : Nat} (h : (s.cfg.channel i).kind = .key → t.stable i = s.stable i) :
    t.button i = s.button i := by
  rcases Nat.lt_or_ge i s.cfg.nb with hi | hi
  · rw [ht.buttons i (hcfg ▸ hi), hs.buttons i hi, hcfg]
    by_cases hk : (s.cfg.channel i).kind = .key
    · rw [h hk]
    · simp [hk]
  · have hlen : s.buttons.length ≤ i := hs.shape.buttons ▸ hi
    have hlen' : t.buttons.length ≤ i := by rwa [ht.shape.buttons, hcfg]
    exact (List.getD_eq_default _ _ hlen').trans (List.getD_eq_default _ _ hlen).symm

theorem State.Inv.buttons_congr (h : ∀ i, (s.cfg.channel i).kind = .key → t.stable i = s.stable i) :
    t.buttons = s.buttons := by
  rw [← perChannel_getD_of_length 0 ht.shape.buttons, ← perChannel_getD_of_length 0 hs.shape.buttons, hcfg]
  exact perChannel_congr fun i _ => hs.button_congr ht hcfg (h i)

theorem State.Inv.modifiers_congr (h : ∀ c, (s.cfg.channel c).kind = .mod → t.stable c = s.stable c) :
    t.modifiers = s.modifiers := by
  rw [ht.modifiers, hs.modifiers, hcfg]
  exact modMapping_congr s.cfg _ _ fun c _ => h c

end

/-! ### A POLL of unchanged inputs (R71 (a)) -/

theorem State.Inv.keyMapping_self (h : s.Inv) : s.keyMapping s.dbStable = s.buttons :=
  h.buttons_congr (h.writeDigital h.shape.dbStable h.shape.dbCnt h.counts) rfl fun _ _ => rfl

theorem State.Inv.digitalChg_self (h : s.Inv) : s.digitalChg s.dbStable = false := by
  rw [Bool.eq_false_iff, Ne, digitalChg_iff, h.keyMapping_self, ← h.modifiers, axisSum_self, axisSum_self]
  simp

theorem State.Inv.writeDigital_self (h : s.Inv) (cnt : List Nibble) :
    s.writeDigital s.dbStable cnt = { s with dbCnt := cnt } := by
  rw [State.writeDigital, h.keyMapping_self, ← h.modifiers, axisSum_self, axisSum_self, add_zero, add_zero, sat8_self,
    sat8_self]

theorem pollDebounce_of_unchanged (h : ∀ c < s.cfg.nch, level (s.cfg.channel c).pol (s.rawPin c) = s.stable c) :
    s.pollDebounce = perChannel s.cfg.nch fun c => { stable := s.stable c, count := 0 } :=
  perChannel_congr fun c hc => by rw [State.debounceStep, h c hc, dbstep_same]

theorem decodeStep_of_unchanged {j : Nat} (h : s.seeded j = true ∧ s.pinCode j = s.prevCode j) :
    s.decodeStep j (s.pinCode j) = { prev := s.prevCode j, seeded := s.seeded j, delta := 0 } := by
  obtain ⟨hseed, hcode⟩ := h
  simp [State.decodeStep, qstep, hseed, hcode]

theorem pollDecode_of_unchanged (h : ∀ j < s.cfg.ne, s.seeded j = true ∧ s.pinCode j = s.prevCode j) :
    s.pollDecode = perChannel s.cfg.ne fun j => { prev := s.prevCode j, seeded := s.seeded j, delta := 0 } :=
  perChannel_congr fun j hj => decodeStep_of_unchanged (h j hj)

/-- Settles O39: every level and code is written back, and nothing written differs but the counts. -/
theorem pollOfUnchangedInputs : Obligations.PollOfUnchangedInputs := by
  unfold Obligations.PollOfUnchangedInputs
  intro s h hl hlvl hcode
  have hstable : s.pollDebounce.map Debounce.stable = s.dbStable := by
    rw [pollDebounce_of_unchanged hlvl, map_perChannel]
    exact perChannel_getD_of_length false h.shape.dbStable
  have hcount : s.pollDebounce.map Debounce.count = List.replicate s.cfg.nch 0 := by
    rw [pollDebounce_of_unchanged hlvl, map_perChannel, perChannel_const]
  have hprev : s.pollDecode.map QStep.prev = s.qPrev := by
    rw [pollDecode_of_unchanged hcode, map_perChannel]
    exact perChannel_getD_of_length 0 h.shape.qPrev
  have hseeded : s.pollDecode.map QStep.seeded = s.qSeeded := by
    rw [pollDecode_of_unchanged hcode, map_perChannel]
    exact perChannel_getD_of_length false h.shape.qSeeded
  have henc : (perChannel s.cfg.ne fun j => s.accumulate j (s.decodeStep j (s.pinCode j)).delta) = s.encoders :=
    calc
      _ = perChannel s.cfg.ne s.encoder := perChannel_congr fun j hj => by
        rw [decodeStep_of_unchanged (hcode j hj), h.accumulate_zero hj]
      _ = s.encoders := perChannel_getD_of_length 0 h.shape.encoders
  have hdelta : encoderChange (s.pollDecode.map QStep.delta) = false := by
    rw [pollDecode_of_unchanged hcode, map_perChannel, perChannel_const]
    simp [encoderChange]
  have hchg : s.pollChg = false := by rw [State.pollChg, hstable, h.digitalChg_self, hdelta, Bool.or_false]
  rw [exec_poll_samples hl, State.afterPoll, hstable, hcount, hprev, hseeded, henc, hchg, h.writeDigital_self,
    State.markDirty, Bool.or_false]
  rfl

/-! ### DSAMP (R70) -/

/-- The next state of a DSAMP in range outside STOPPED. -/
def State.afterDsamp (s : State) (c : Nat) (r : Bool) : State :=
  let d := s.debounceStep c r
  let st := s.dbStable.set c d.stable
  ((s.writeDigital st (s.dbCnt.set c d.count)).markDirty (s.digitalChg st)).out [] (symbol (s.cfg.channel c) d.stable)

/-- Channel `c` is an AXIS channel that a sample `r` makes stably active (R67). -/
def State.axisPress (s : State) (c : Nat) (r : Bool) : Bool :=
  decide ((s.cfg.channel c).kind = .axis ∧ s.stable c = false ∧ (s.debounceStep c r).stable = true)

theorem axisPress_iff (s : State) (c : Nat) (r : Bool) :
    s.axisPress c r = true ↔
      (s.cfg.channel c).kind = .axis ∧ s.stable c = false ∧ (s.debounceStep c r).stable = true :=
  decide_eq_true_iff

theorem exec_dsamp_samples {ch : Nibble} (r : Bool) (hc : ch.toNat < s.cfg.nch) (hl : s.life ≠ .stopped) :
    exec (.dsamp ch r) s = .next (s.afterDsamp ch.toNat r) := by
  show execDsamp ch r s = _
  rw [execDsamp, if_neg (not_not_intro hc), if_neg hl, State.afterDsamp]

theorem exec_dsamp_stopped {ch : Nibble} (r : Bool) (hc : ch.toNat < s.cfg.nch) (hl : s.life = .stopped) :
    exec (.dsamp ch r) s = .next s.quiet := by
  show execDsamp ch r s = _
  rw [execDsamp, if_neg (not_not_intro hc), if_pos hl]

section
variable {c : Nat} (r : Bool)

section
variable (hs : s.Shape) (hc : c < s.cfg.nch) (k : Nat)
include hs

theorem afterDsamp_shape : (s.afterDsamp c r).Shape :=
  { hs with
    buttons := perChannel_length ..
    dbStable := (List.length_set ..).trans hs.dbStable
    dbCnt := (List.length_set ..).trans hs.dbCnt }

include hc

theorem afterDsamp_stable :
    (s.afterDsamp c r).stable k = if k = c then (s.debounceStep c r).stable else s.stable k :=
  getD_set _ _ _ _ _ (hs.dbStable ▸ hc)

theorem afterDsamp_count :
    (s.afterDsamp c r).count k = if k = c then (s.debounceStep c r).count else s.count k :=
  getD_set _ _ _ _ _ (hs.dbCnt ▸ hc)

theorem afterDsamp_stable_self : (s.afterDsamp c r).stable c = (s.debounceStep c r).stable :=
  (afterDsamp_stable r hs hc c).trans (if_pos rfl)

theorem afterDsamp_stable_of_ne {k : Nat} (hk : k ≠ c) : (s.afterDsamp c r).stable k = s.stable k :=
  (afterDsamp_stable r hs hc k).trans (if_neg hk)

/-- The sum of an axis is AXIS_STEP with its sign on a press of channel `c` on that axis, else 0 (R67). -/
theorem afterDsamp_axisSum (axis : Axis) :
    axisSum s.cfg axis s.dbStable (s.afterDsamp c r).dbStable =
      if s.axisPress c r = true ∧ axisOf (s.cfg.channel c).arg = axis
      then signOf (s.cfg.channel c).arg * s.cfg.axisStep else 0 := by
  have hset : axisSum s.cfg axis s.dbStable (s.afterDsamp c r).dbStable =
      axisContribution s.cfg axis s.dbStable (s.afterDsamp c r).dbStable c :=
    axisSum_set s.cfg axis s.dbStable c _ hc hs.dbStable
  have hold : s.dbStable.getD c false = s.stable c := rfl
  have hnew : (s.afterDsamp c r).dbStable.getD c false = (s.debounceStep c r).stable := afterDsamp_stable_self r hs hc
  rw [hset, axisContribution, hold, hnew]
  refine if_congr ?_ rfl rfl
  rw [axisPress_iff]
  tauto

end

section
variable {ch : Nibble} (h : s.Inv) (hc : ch.toNat < s.cfg.nch)
include h hc

/-- AXIS_STEP is at least 1, so a press and nothing else makes one of the two sums nonzero. -/
theorem afterDsamp_axisSum_ne_zero_iff :
    (axisSum s.cfg .x s.dbStable (s.afterDsamp ch.toNat r).dbStable ≠ 0 ∨
      axisSum s.cfg .y s.dbStable (s.afterDsamp ch.toNat r).dbStable ≠ 0) ↔ s.axisPress ch.toNat r = true := by
  have hstep := Config.axisStep_pos h.config
  have hv : signOf (s.cfg.channel ch.toNat).arg * s.cfg.axisStep ≠ 0 := by
    rw [signOf_mul]
    split <;> omega
  rw [afterDsamp_axisSum r h.shape hc, afterDsamp_axisSum r h.shape hc]
  cases s.axisPress ch.toNat r with
  | false => simp
  | true => cases axisOf (s.cfg.channel ch.toNat).arg <;> simpa using hv

theorem afterDsamp_dirty_iff :
    (s.afterDsamp ch.toNat r).dirty = true ↔ s.dirty = true ∨ (s.afterDsamp ch.toNat r).buttons ≠ s.buttons ∨
      (s.afterDsamp ch.toNat r).modifiers ≠ s.modifiers ∨ s.axisPress ch.toNat r = true := by
  rw [← afterDsamp_axisSum_ne_zero_iff r h hc]
  exact (Bool.or_eq_true ..).to_iff.trans (or_congr_right (digitalChg_iff ..))

variable (hl : s.life ≠ .stopped)
include hl

theorem afterDsamp_inv : (s.afterDsamp ch.toNat r).Inv := exec_dsamp_keeps_inv h (exec_dsamp_samples r hc hl)

/-- A sample can move the slot of its own channel alone, and only that of a KEY channel (R65). -/
theorem afterDsamp_button_of_ne {k : Nat} (hk : k ≠ ch.toNat) : (s.afterDsamp ch.toNat r).button k = s.button k :=
  h.button_congr (afterDsamp_inv r h hc hl) rfl fun _ => afterDsamp_stable_of_ne r h.shape hc hk

theorem afterDsamp_buttons_of_not_key (hk : (s.cfg.channel ch.toNat).kind ≠ .key) :
    (s.afterDsamp ch.toNat r).buttons = s.buttons :=
  h.buttons_congr (afterDsamp_inv r h hc hl) rfl fun _ hi =>
    afterDsamp_stable_of_ne r h.shape hc fun e => hk (e ▸ hi)

theorem afterDsamp_modifiers_of_not_mod (hk : (s.cfg.channel ch.toNat).kind ≠ .mod) :
    (s.afterDsamp ch.toNat r).modifiers = s.modifiers :=
  h.modifiers_congr (afterDsamp_inv r h hc hl) rfl fun _ hi =>
    afterDsamp_stable_of_ne r h.shape hc fun e => hk (e ▸ hi)

end
end

/-! ### The stable symbol (R70) -/

theorem modBit_setWidth (arg : Byte) : (modBit arg).setWidth 16 = BitVec.ofNat 16 (2 ^ (arg.toNat % 8)) := by
  have hlt : arg.toNat % 8 < 8 := Nat.mod_lt _ (by decide)
  have hbits : (arg.extractLsb' 0 3).toNat = arg.toNat % 8 := BitVec.extractLsb'_toNat ..
  rw [modBit, hbits]
  generalize arg.toNat % 8 = b at hlt
  revert b
  decide

theorem signOf_word (arg : Byte) :
    BitVec.ofInt 16 (signOf arg) = if arg.getLsbD 1 = true then 0xFFFF#16 else 0x0001#16 := by
  unfold signOf
  split <;> rfl

theorem bitWord_eq_ite (b : Bool) : bitWord b = if b then 0x0001 else 0x0000 := by
  cases b <;> rfl

theorem symbol_eq (ch : ChannelConfig) (st : Bool) :
    symbol ch st = match ch.kind with
      | .key => if st then BitVec.ofNat 16 ch.arg.toNat else 0
      | .mod => if st then BitVec.ofNat 16 (2 ^ (ch.arg.toNat % 8)) else 0
      | .axis => if st then (if ch.arg.getLsbD 1 = true then 0xFFFF else 0x0001) else 0
      | .none => if st then 0x0001 else 0x0000 := by
  obtain ⟨kind, arg, pol⟩ := ch
  cases kind with
  | key => exact congrArg (fun w : Word => if st then w else 0) (BitVec.ofNat_toNat 16 arg).symm
  | mod => exact congrArg (fun w : Word => if st then w else 0) (modBit_setWidth arg)
  | axis => exact congrArg (fun w : Word => if st then w else 0) (signOf_word arg)
  | none => exact bitWord_eq_ite st

/-- Settles O40: the record of channel `c` alone is written, so only what is mapped from `c` can move. -/
theorem dsampSamplesOneChannel : Obligations.DsampSamplesOneChannel := by
  unfold Obligations.DsampSamplesOneChannel
  intro s ch r h hc hl c cc d press v
  have hd : s.debounceStep c r = d := congrArg (dbstep s.cfg.debounceK (s.stable c) (s.count c)) (level_eq_ite ..)
  have hstable := afterDsamp_stable_self r h.shape hc
  have hcount := afterDsamp_count r h.shape hc
  have hpress : s.axisPress c r = true ↔ press := by rw [axisPress_iff, hd]
  have haxis : ∀ axis, axisSum s.cfg axis s.dbStable (s.afterDsamp c r).dbStable =
      if press ∧ axisOf cc.arg = axis then v else 0 := fun axis =>
    (afterDsamp_axisSum r h.shape hc axis).trans (if_congr (and_congr_left' hpress) (signOf_mul ..) rfl)
  have hresp : (s.afterDsamp c r).resp = symbol cc (s.debounceStep c r).stable := rfl
  rw [hd] at hstable hresp
  refine ⟨s.afterDsamp c r, exec_dsamp_samples r hc hl, afterDsamp_shape r h.shape, hstable, ?count, ?others, ?slot,
    afterDsamp_buttons_of_not_key r h hc hl, fun b hb => modMapping_getLsbD s.cfg _ b hb,
    afterDsamp_modifiers_of_not_mod r h hc hl, ?axisX, ?axisY, ?dirty, ?resp, rfl⟩
  case count => rw [hcount, if_pos rfl, hd]
  case others =>
    intro k hk
    exact ⟨afterDsamp_stable_of_ne r h.shape hc hk, (hcount k).trans (if_neg hk),
      afterDsamp_button_of_ne r h hc hl hk⟩
  case slot =>
    intro hb hk
    rw [← hstable]
    exact (keyMapping_getD s _ hb).trans (if_pos hk)
  case axisX =>
    have hbit : axisOf cc.arg = .x ↔ cc.arg.getLsbD 0 = false := by simp [axisOf_eq_iff]
    rw [← if_congr (and_congr_right' hbit) rfl rfl, ← haxis]
    exact sat8_toInt _
  case axisY =>
    have hbit : axisOf cc.arg = .y ↔ cc.arg.getLsbD 0 = true := by simp [axisOf_eq_iff]
    rw [← if_congr (and_congr_right' hbit) rfl rfl, ← haxis]
    exact sat8_toInt _
  case dirty =>
    rw [← hpress]
    exact afterDsamp_dirty_iff r h hc
  case resp => exact hresp.trans (symbol_eq cc d.stable)

/-! ### Two DSAMPs in either order (R65) -/

/-- The code of a KEY channel is not 0 (00_scope.md R8 (b)), so its slot shows its stable level. -/
theorem State.Inv.button_eq_zero_iff (h : s.Inv) {c : Nat} (hc : c < s.cfg.nch) (hk : (s.cfg.channel c).kind = .key) :
    s.button c = 0 ↔ s.stable c = false := by
  obtain ⟨hb, harg⟩ := Config.key_lt_nb h.config hc hk
  rw [h.buttons c hb]
  cases s.stable c with
  | false => simp
  | true => simpa [hk] using harg

/-- A DSAMP of a KEY channel sets `dirty` exactly when it moves the stable level (R68). -/
theorem afterDsamp_dirty_of_key {ch : Nibble} (r : Bool) (h : s.Inv) (hc : ch.toNat < s.cfg.nch)
    (hl : s.life ≠ .stopped) (hk : (s.cfg.channel ch.toNat).kind = .key) :
    (s.afterDsamp ch.toNat r).dirty = (s.dirty || (s.debounceStep ch.toNat r).stable != s.stable ch.toNat) := by
  have ht := afterDsamp_inv r h hc hl
  have hmods := afterDsamp_modifiers_of_not_mod r h hc hl (by simp [hk])
  have hpress : ¬ s.axisPress ch.toNat r = true := by simp [axisPress_iff, hk]
  have hbuttons : (s.afterDsamp ch.toNat r).buttons = s.buttons ↔
      (s.debounceStep ch.toNat r).stable = s.stable ch.toNat := by
    rw [← afterDsamp_stable_self r h.shape hc]
    constructor
    · intro he
      have hslot : (s.afterDsamp ch.toNat r).button ch.toNat = s.button ch.toNat := congrArg (·.getD ch.toNat 0) he
      have hfalse := ht.button_eq_zero_iff hc hk
      rw [hslot, h.button_eq_zero_iff hc hk] at hfalse
      exact Bool.eq_iff_iff.2 (by simpa using not_congr hfalse.symm)
    · intro he
      refine h.buttons_congr ht rfl fun i _ => ?_
      by_cases hi : i = ch.toNat
      · rw [hi, he]
      · exact afterDsamp_stable_of_ne r h.shape hc hi
  rw [Bool.eq_iff_iff, afterDsamp_dirty_iff r h hc, Bool.or_eq_true, bne_iff_ne, Ne, hbuttons]
  simp [hmods, hpress]

/-- Only an AXIS channel moves an axis (R67). -/
theorem afterDsamp_axes_of_not_axis {c : Nat} (r : Bool) (hs : s.Shape) (hc : c < s.cfg.nch)
    (hk : (s.cfg.channel c).kind ≠ .axis) :
    (s.afterDsamp c r).axisX = s.axisX ∧ (s.afterDsamp c r).axisY = s.axisY := by
  have hpress : ¬ s.axisPress c r = true := by simp [axisPress_iff, hk]
  have hsum : ∀ axis, axisSum s.cfg axis s.dbStable (s.afterDsamp c r).dbStable = 0 := fun axis => by
    rw [afterDsamp_axisSum r hs hc, if_neg fun h => hpress h.1]
  have hsat : ∀ (x : Byte) (n : Int), n = 0 → sat8 (x.toInt + n) = x := by
    rintro x - rfl
    rw [add_zero, sat8_self]
  exact ⟨hsat _ _ (hsum .x), hsat _ _ (hsum .y)⟩

/-- The debounce step of a channel does not depend on a sample of another. -/
theorem afterDsamp_debounceStep_of_ne {c k : Nat} (r r' : Bool) (hs : s.Shape) (hc : c < s.cfg.nch) (hk : k ≠ c) :
    (s.afterDsamp c r).debounceStep k r' = s.debounceStep k r' := by
  unfold State.debounceStep
  rw [afterDsamp_stable_of_ne r hs hc hk, (afterDsamp_count r hs hc k).trans (if_neg hk)]
  rfl

/-- The state after a DSAMP of `c` and then one of `c'`. -/
def State.afterDsamps (s : State) (c c' : Nibble) (r r' : Bool) : State :=
  (s.afterDsamp c.toNat r).afterDsamp c'.toNat r'

theorem runCommands_dsamps {c c' : Nibble} (r r' : Bool) (hc : c.toNat < s.cfg.nch) (hc' : c'.toNat < s.cfg.nch)
    (hl : s.life ≠ .stopped) :
    runCommands [.dsamp c r, .dsamp c' r'] s = some (s.afterDsamps c c' r r', []) := by
  have hfst := exec_dsamp_samples r hc hl
  have hsnd : exec (.dsamp c' r') (s.afterDsamp c.toNat r) = .next (s.afterDsamps c c' r r') :=
    exec_dsamp_samples r' hc' hl
  simp only [runCommands, hfst, hsnd]
  rfl

theorem runCommands_dsamps_stopped {c c' : Nibble} (r r' : Bool) (hc : c.toNat < s.cfg.nch)
    (hc' : c'.toNat < s.cfg.nch) (hl : s.life = .stopped) :
    runCommands [.dsamp c r, .dsamp c' r'] s = some (s.quiet, []) := by
  have hfst := exec_dsamp_stopped r hc hl
  have hsnd : exec (.dsamp c' r') s.quiet = .next s.quiet := exec_dsamp_stopped r' hc' hl
  simp only [runCommands, hfst, hsnd]
  rfl

section
variable {c c' : Nibble} (r r' : Bool)

/-- Two samples write two different entries of the records. -/
theorem afterDsamps_records (hs : s.Shape) (hc : c.toNat < s.cfg.nch) (hne : c.toNat ≠ c'.toNat) :
    (s.afterDsamps c c' r r').dbStable = (s.dbStable.set c.toNat (s.debounceStep c.toNat r).stable).set c'.toNat
        (s.debounceStep c'.toNat r').stable ∧
      (s.afterDsamps c c' r r').dbCnt = (s.dbCnt.set c.toNat (s.debounceStep c.toNat r).count).set c'.toNat
        (s.debounceStep c'.toNat r').count := by
  rw [← afterDsamp_debounceStep_of_ne r r' hs hc hne.symm]
  exact ⟨rfl, rfl⟩

variable (h : s.Inv) (hc : c.toNat < s.cfg.nch) (hc' : c'.toNat < s.cfg.nch)
include h hc hc'

theorem afterDsamps_records_comm (hne : c ≠ c') :
    (s.afterDsamps c c' r r').dbStable = (s.afterDsamps c' c r' r).dbStable ∧
      (s.afterDsamps c c' r r').dbCnt = (s.afterDsamps c' c r' r).dbCnt := by
  have hnat : c.toNat ≠ c'.toNat := mt BitVec.eq_of_toNat_eq hne
  obtain ⟨hstable, hcnt⟩ := afterDsamps_records r r' h.shape hc hnat
  obtain ⟨hstable', hcnt'⟩ := afterDsamps_records r' r h.shape hc' hnat.symm
  rw [hstable, hcnt, hstable', hcnt']
  exact ⟨List.set_comm _ _ hnat, List.set_comm _ _ hnat⟩

variable (hl : s.life ≠ .stopped)
include hl

theorem afterDsamps_inv : (s.afterDsamps c c' r r').Inv :=
  afterDsamp_inv r' (afterDsamp_inv r h hc hl) hc' hl

/-- Slots and modifiers follow the stable levels, so they agree with the records. -/
theorem afterDsamps_comm (hne : c ≠ c') :
    s.afterDsamps c c' r r' = { s.afterDsamps c' c r' r with
      axisX := (s.afterDsamps c c' r r').axisX, axisY := (s.afterDsamps c c' r r').axisY,
      dirty := (s.afterDsamps c c' r r').dirty, resp := (s.afterDsamps c c' r r').resp } := by
  have hu := afterDsamps_inv r r' h hc hc' hl
  have hv := afterDsamps_inv r' r h hc' hc hl
  obtain ⟨hstable, hcnt⟩ := afterDsamps_records_comm r r' h hc hc' hne
  have hlevel : ∀ i, (s.afterDsamps c c' r r').stable i = (s.afterDsamps c' c r' r).stable i := fun i =>
    congrArg (·.getD i false) hstable
  have hbuttons := hv.buttons_congr hu rfl fun i _ => hlevel i
  have hmods := hv.modifiers_congr hu rfl fun i _ => hlevel i
  calc s.afterDsamps c c' r r'
    _ = { s.afterDsamps c c' r r' with
          dbStable := (s.afterDsamps c c' r r').dbStable, dbCnt := (s.afterDsamps c c' r r').dbCnt,
          buttons := (s.afterDsamps c c' r r').buttons, modifiers := (s.afterDsamps c c' r r').modifiers } := rfl
    _ = _ := by
      rw [hstable, hcnt, hbuttons, hmods]
      rfl

/-- KEY channels move no axis, and each sets `dirty` by its own record. -/
theorem afterDsamps_of_keys (hne : c ≠ c') (hk : (s.cfg.channel c.toNat).kind = .key)
    (hk' : (s.cfg.channel c'.toNat).kind = .key) :
    (s.afterDsamps c c' r r').axisX = s.axisX ∧ (s.afterDsamps c c' r r').axisY = s.axisY ∧
      (s.afterDsamps c c' r r').dirty = (s.dirty || (s.debounceStep c.toNat r).stable != s.stable c.toNat ||
        (s.debounceStep c'.toNat r').stable != s.stable c'.toNat) := by
  have hnat : c'.toNat ≠ c.toNat := fun e => hne (BitVec.eq_of_toNat_eq e.symm)
  have hmid := afterDsamp_inv r h hc hl
  obtain ⟨hx, hy⟩ := afterDsamp_axes_of_not_axis r h.shape hc (by simp [hk])
  obtain ⟨hx', hy'⟩ := afterDsamp_axes_of_not_axis (s := s.afterDsamp c.toNat r) r' hmid.shape hc' (by
    show (s.cfg.channel c'.toNat).kind ≠ .axis
    simp [hk'])
  have hdirty := afterDsamp_dirty_of_key r h hc hl hk
  have hdirty' := afterDsamp_dirty_of_key r' hmid hc' hl hk'
  rw [afterDsamp_debounceStep_of_ne r r' h.shape hc hnat, afterDsamp_stable_of_ne r h.shape hc hnat, hdirty] at hdirty'
  exact ⟨hx'.trans hx, hy'.trans hy, hdirty'⟩

end

/-- Settles O41: both orders write the same records, which the rest follows; in STOPPED neither does anything. -/
theorem sampleOrderOfTwoChannels : Obligations.SampleOrderOfTwoChannels := by
  unfold Obligations.SampleOrderOfTwoChannels
  intro s c c' r r' h hne hc hc'
  by_cases hl : s.life = .stopped
  · exact ⟨_, _, _, _, runCommands_dsamps_stopped r r' hc hc' hl, runCommands_dsamps_stopped r' r hc' hc hl, rfl,
      fun _ _ => rfl⟩
  have hcomm := afterDsamps_comm r r' h hc hc' hl hne
  refine ⟨_, _, _, _, runCommands_dsamps r r' hc hc' hl, runCommands_dsamps r' r hc' hc hl, hcomm, fun hk hk' => ?_⟩
  obtain ⟨hx, hy, hdirty⟩ := afterDsamps_of_keys r r' h hc hc' hl hne hk hk'
  obtain ⟨hx', hy', hdirty'⟩ := afterDsamps_of_keys r' r h hc' hc hl hne.symm hk' hk
  rw [Bool.or_right_comm] at hdirty'
  rw [hcomm]
  simp only [hx, hx', hy, hy', hdirty, hdirty']

end Sys2Proof.Machine

/-! SUPPORT. Proofs of the statements of 42_connection_lifecycle.md: the cells of the transition matrix, the moves between
the life states, and the countdown over a run of CTICKs. -/

namespace Sys2Proof.Machine

variable {s t : State} {i : Instr}

/-! ### The cells of the transition matrix (R72, R74 to R79) -/

/-- Every command completes, so an inversion lemma that leaves one next state is an equation. -/
theorem exec_eq_next (h : ∀ u, exec i s = .next u → u = t) : exec i s = .next t := by
  obtain ⟨u, hu⟩ := exec_completes i s
  rw [hu, h u hu]

theorem exec_start_stopped (hl : s.life = .stopped) : exec .start s = .next ({ s with life := .idle }.out [.tStart] 0) :=
  exec_eq_next fun _ hu => by simpa [hl] using exec_start_cases hu

theorem exec_start_ignored (hl : s.life ≠ .stopped) : exec .start s = .next s.ignored :=
  exec_eq_next fun _ hu => by simpa [hl] using exec_start_cases hu

/-- The block switched off: STOPPED, nothing seeded, the countdown at 0 (R75). -/
def State.switchedOff (s : State) : State := { s.clearSeeds with life := .stopped, deadline := 0 }

theorem switchedOff_eq_replicate (s : State) :
    s.switchedOff = { s with life := .stopped, deadline := 0, qSeeded := List.replicate s.cfg.ne false } := by
  rw [State.switchedOff, State.clearSeeds, perChannel_const]

/-- Outside ADVERTISING the countdown is 0 already. -/
theorem State.DeadlineInv.switchedOff_eq (hd : s.DeadlineInv) (hl : s.life ≠ .advertising) :
    s.switchedOff = { s with life := .stopped, qSeeded := List.replicate s.cfg.ne false } := by
  rw [switchedOff_eq_replicate, ← hd.2 hl]

theorem exec_stop_stopped (hl : s.life = .stopped) : exec .stop s = .next s.quiet :=
  exec_eq_next fun _ hu => by simpa [hl] using exec_stop_cases hu

theorem exec_stop_advertising (hl : s.life = .advertising) :
    exec .stop s = .next (s.switchedOff.out [.tAdvStop, .tStop] 0) :=
  exec_eq_next fun _ hu => by simpa [hl, State.switchedOff] using exec_stop_cases hu

theorem exec_stop_running (hl : s.life ≠ .stopped) (hl' : s.life ≠ .advertising) :
    exec .stop s = .next (s.switchedOff.out [.tStop] 0) :=
  exec_eq_next fun _ hu => by simpa [hl, hl', State.switchedOff] using exec_stop_cases hu

theorem exec_advertise_idle (hl : s.life = .idle) : exec .advertise s = .next (s.enterAdvertising.out [.tAdvStart] 0) :=
  exec_eq_next fun _ hu => by simpa [hl] using exec_advertise_cases hu

theorem exec_advertise_ignored (hl : s.life ≠ .idle) : exec .advertise s = .next s.ignored :=
  exec_eq_next fun _ hu => by simpa [hl] using exec_advertise_cases hu

theorem exec_linkUp_advertising (hl : s.life = .advertising) :
    exec .linkUp s = .next { s with life := .connected, deadline := 0 }.quiet :=
  exec_eq_next fun _ hu => by simpa [hl] using exec_linkUp_cases hu

theorem exec_linkUp_ignored (hl : s.life ≠ .advertising) : exec .linkUp s = .next s.ignored :=
  exec_eq_next fun _ hu => by simpa [hl] using exec_linkUp_cases hu

theorem exec_linkDown_connected (hl : s.life = .connected) :
    exec .linkDown s = .next { s with life := .idle }.quiet :=
  exec_eq_next fun _ hu => by simpa [hl] using exec_linkDown_cases hu

theorem exec_linkDown_ignored (hl : s.life ≠ .connected) : exec .linkDown s = .next s.ignored :=
  exec_eq_next fun _ hu => by simpa [hl] using exec_linkDown_cases hu

/-- The state after the tick that ends the countdown. -/
def State.timedOut (s : State) : State := { s with life := .idle, deadline := 0 }.out [.tAdvStop] 0

/-- The state after a tick that does not. -/
def State.ticked (s : State) : State := { s with deadline := BitVec.ofNat 16 (s.deadline.toNat - 1) }.quiet

theorem exec_ctick_quiet (hl : s.life ≠ .advertising) : exec .ctick s = .next s.quiet :=
  exec_eq_next fun _ hu => by simpa [hl] using exec_ctick_cases hu

theorem exec_ctick_last (hl : s.life = .advertising) (h1 : s.deadline.toNat = 1) :
    exec .ctick s = .next s.timedOut := by
  have hone : s.deadline = 1 := BitVec.eq_of_toNat_eq h1
  exact exec_eq_next fun _ hu => by simpa [hl, hone, State.timedOut] using exec_ctick_cases hu

theorem exec_ctick_counts (hl : s.life = .advertising) (h1 : 1 < s.deadline.toNat) :
    exec .ctick s = .next s.ticked := by
  have hone : s.deadline ≠ 1#16 := by bv_omega
  have hsub : s.deadline - 1 = BitVec.ofNat 16 (s.deadline.toNat - 1) := by bv_omega
  rw [State.ticked, ← hsub]
  exact exec_eq_next fun _ hu => by simpa [hl, hone] using exec_ctick_cases hu

/-- Settles O43: one rule per cell; the countdown invariant gives the writes of STOP and CTICK. -/
theorem lifecycleMatrix : Obligations.LifecycleMatrix := by
  unfold Obligations.LifecycleMatrix
  refine ⟨by decide, fun s hd => ?_⟩
  dsimp only
  refine ⟨?start, ?stop, ?advertise, ?linkUp, ?linkDown, ?ctick⟩
  case start =>
    split
    · exact exec_start_stopped ‹_›
    all_goals exact exec_start_ignored (by simp [*])
  case stop =>
    split
    · exact exec_stop_stopped ‹_›
    case h_4 hl => rw [exec_stop_advertising hl, switchedOff_eq_replicate]; rfl
    all_goals
      have hl : s.life ≠ .advertising := by simp [*]
      rw [exec_stop_running (by simp [*]) hl, hd.switchedOff_eq hl]
      rfl
  case advertise =>
    split
    · exact exec_advertise_idle ‹_›
    all_goals exact exec_advertise_ignored (by simp [*])
  case linkUp =>
    split
    · exact exec_linkUp_advertising ‹_›
    all_goals exact exec_linkUp_ignored (by simp [*])
  case linkDown =>
    split
    · exact exec_linkDown_connected ‹_›
    all_goals exact exec_linkDown_ignored (by simp [*])
  case ctick =>
    split
    case h_1 hl =>
      obtain ⟨hpos, -⟩ := hd.1 hl
      split
      · exact exec_ctick_last hl ‹_›
      · exact exec_ctick_counts hl (by omega)
    all_goals exact exec_ctick_quiet (by simp [*])

/-! ### The moves between the life states (R72, R80) -/

theorem exec_stop_life (h : exec .stop s = .next t) : t.life = .stopped := by
  obtain ⟨hl, rfl⟩ | ⟨-, rfl⟩ | ⟨-, -, rfl⟩ := exec_stop_cases h
  · exact hl
  · rfl
  · rfl

/-- A command that moves `life` is one of those that cause a transition, in a state where it acts. -/
theorem exec_moves_life (h : exec i s = .next t) (hmove : t.life ≠ s.life)
    (hmem : i.mnemonic ∈ ["START", "STOP", "ADVERTISE", "LINK_UP", "LINK_DOWN", "CTICK", "EMIT"]) :
    (i = .start ∧ s.life = .stopped ∧ t.life = .idle) ∨
    (i = .stop ∧ t.life = .stopped) ∨
    ((i = .advertise ∨ (i = .emit ∧ s.dirty = true)) ∧ s.life = .idle ∧ t.life = .advertising ∧
      t.events = [.tAdvStart] ∧ t.deadline = BitVec.ofNat 16 s.cfg.advTimeoutTicks) ∨
    (i = .linkUp ∧ s.life = .advertising ∧ t.life = .connected) ∨
    (i = .linkDown ∧ s.life = .connected ∧ t.life = .idle) ∨
    (i = .ctick ∧ s.life = .advertising ∧ s.deadline = 1 ∧ t.life = .idle) := by
  cases i with
  | start =>
    obtain ⟨hl, rfl⟩ | ⟨-, rfl⟩ := exec_start_cases h
    · simp [hl]
    · exact absurd rfl hmove
  | stop => simp [exec_stop_life h]
  | advertise =>
    obtain ⟨hl, rfl⟩ | ⟨-, rfl⟩ := exec_advertise_cases h
    · simp [hl]
    · exact absurd rfl hmove
  | linkUp =>
    obtain ⟨hl, rfl⟩ | ⟨-, rfl⟩ := exec_linkUp_cases h
    · simp [hl]
    · exact absurd rfl hmove
  | linkDown =>
    obtain ⟨hl, rfl⟩ | ⟨-, rfl⟩ := exec_linkDown_cases h
    · simp [hl]
    · exact absurd rfl hmove
  | ctick =>
    obtain ⟨-, rfl⟩ | ⟨hl, hone, rfl⟩ | ⟨-, -, rfl⟩ := exec_ctick_cases h
    · exact absurd rfl hmove
    · simp [hl, hone]
    · exact absurd rfl hmove
  | emit =>
    obtain ⟨-, rfl⟩ | ⟨hdirty, hl, rfl⟩ | ⟨-, -, -, rfl⟩ | ⟨-, -, -, rfl⟩ := exec_emit_cases h
    · exact absurd rfl hmove
    · simp [hl, hdirty]
    · exact absurd rfl hmove
    · exact absurd rfl hmove
  | _ => simp [Instr.mnemonic] at hmem

section
variable (h : step s = .next t) (hr : s.ports.rst = false)
include h hr

/-- With `rst` low a step does what its command does, and consumes the sample. -/
theorem exec_of_step (hi : decode s.ports.cmd = .ok i) : ∃ u, exec i s = .next u ∧ t = u.consumed := by
  obtain ⟨hw, -⟩ := step_cases h
  obtain ⟨u, hu⟩ := exec_completes i s
  rw [step_of_decode hw hr hi, hu] at h
  exact ⟨u, hu, (Host.Outcome.next.inj h).symm⟩

/-- A step that moves `life` runs the word of one of those commands. -/
theorem step_moves_life (hmove : t.life ≠ s.life) :
    (s.ports.cmd = 0x6000 ∧ s.life = .stopped ∧ t.life = .idle) ∨
    (s.ports.cmd = 0x7000 ∧ t.life = .stopped) ∨
    ((s.ports.cmd = 0x8000 ∨ (s.ports.cmd = 0x4000 ∧ s.dirty = true)) ∧ s.life = .idle ∧ t.life = .advertising ∧
      t.events = [.tAdvStart] ∧ t.deadline = BitVec.ofNat 16 s.cfg.advTimeoutTicks) ∨
    (s.ports.cmd = 0x9000 ∧ s.life = .advertising ∧ t.life = .connected) ∨
    (s.ports.cmd = 0xA000 ∧ s.life = .connected ∧ t.life = .idle) ∨
    (s.ports.cmd = 0x5000 ∧ s.life = .advertising ∧ s.deadline = 1 ∧ t.life = .idle) := by
  obtain ⟨-, -, -, -, -, hwriters, -⟩ := fieldsHaveOnlyTheirWriters s t h hr
  obtain ⟨i, hi, hmem⟩ := hwriters hmove
  obtain ⟨u, hu, rfl⟩ := exec_of_step h hr hi
  rw [← encode_of_decode hi]
  obtain ⟨rfl, hx⟩ | ⟨rfl, hx⟩ | ⟨rfl | ⟨rfl, hdirty⟩, hx⟩ | ⟨rfl, hx⟩ | ⟨rfl, hx⟩ | ⟨rfl, hx⟩ :=
    exec_moves_life hu hmove hmem
  · exact .inl ⟨by decide, hx⟩
  · exact .inr (.inl ⟨by decide, hx⟩)
  · exact .inr (.inr (.inl ⟨.inl (by decide), hx⟩))
  · exact .inr (.inr (.inl ⟨.inr ⟨by decide, hdirty⟩, hx⟩))
  · exact .inr (.inr (.inr (.inl ⟨by decide, hx⟩)))
  · exact .inr (.inr (.inr (.inr (.inl ⟨by decide, hx⟩))))
  · exact .inr (.inr (.inr (.inr (.inr ⟨by decide, hx⟩))))

theorem step_stop_life (hcmd : s.ports.cmd = 0x7000) : t.life = .stopped := by
  obtain ⟨u, hu, rfl⟩ := exec_of_step (i := .stop) h hr (hcmd ▸ decode_encode .stop)
  exact (exec_stop_life hu :)

end

/-- Settles O44: a step that leaves `life` alone leaves no state and enters none; each of the six moves is one of the ways
listed. -/
theorem lifecycleEntriesAndExits : Obligations.LifecycleEntriesAndExits := by
  unfold Obligations.LifecycleEntriesAndExits
  intro s t _ h hr
  by_cases hmove : t.life = s.life
  case pos =>
    have hstop := step_stop_life h hr
    rw [hmove] at hstop ⊢
    exact ⟨fun hs ht => absurd ht hs, fun hs ht => absurd hs ht, fun hs ht => absurd hs ht, fun hs ht => absurd hs ht,
      hstop, fun hs ht => absurd hs ht⟩
  case neg =>
    obtain ⟨hcmd, hl, ht⟩ | ⟨hcmd, ht⟩ | ⟨hcmd | ⟨hcmd, hdirty⟩, hl, ht, hev, hdl⟩ | ⟨hcmd, hl, ht⟩ | ⟨hcmd, hl, ht⟩ |
      ⟨hcmd, hl, hone, ht⟩ := step_moves_life h hr hmove
    · simp [hcmd, hl, ht]
    · simp [hcmd, ht]
    · simp [hcmd, hl, ht, hev, hdl]
    · simp [hcmd, hdirty, hl, ht, hev, hdl]
    · simp [hcmd, hl, ht]
    · simp [hcmd, hl, ht]
    · simp [hcmd, hl, hone, ht]

/-! ### The countdown (R79) -/

theorem runCommands_cons (h : exec i s = .next t) (is : List Instr) :
    runCommands (i :: is) s = (runCommands is t).map fun r => (r.1, t.events ++ r.2) := by
  simp only [runCommands, h]

theorem ticked_deadline_toNat (s : State) : s.ticked.deadline.toNat = s.deadline.toNat - 1 := by
  have := s.deadline.isLt
  show (BitVec.ofNat 16 (s.deadline.toNat - 1)).toNat = _
  rw [BitVec.toNat_ofNat, Nat.mod_eq_of_lt (by omega)]

theorem runCommands_ctick_counts (hl : s.life = .advertising) {n : Nat} (hn : n < s.deadline.toNat) :
    ∃ t, runCommands (List.replicate n .ctick) s = some (t, []) ∧ t.life = .advertising ∧
      t.deadline.toNat = s.deadline.toNat - n := by
  induction n generalizing s with
  | zero => exact ⟨s, rfl, hl, rfl⟩
  | succ n ih =>
    have hdl := ticked_deadline_toNat s
    obtain ⟨t, hrun, ht, hdl'⟩ := ih (s := s.ticked) hl (by omega)
    refine ⟨t, ?_, ht, by omega⟩
    rw [List.replicate_succ, runCommands_cons (exec_ctick_counts hl (by omega)), hrun]
    rfl

theorem runCommands_ctick_timesOut (hl : s.life = .advertising) {n : Nat} (hn : s.deadline.toNat = n + 1) :
    runCommands (List.replicate (n + 1) .ctick) s = some (s.timedOut, [.tAdvStop]) := by
  induction n generalizing s with
  | zero => rw [List.replicate_succ, runCommands_cons (exec_ctick_last hl hn)]; rfl
  | succ n ih =>
    have hdl := ticked_deadline_toNat s
    rw [List.replicate_succ, runCommands_cons (exec_ctick_counts hl (by omega)), ih (s := s.ticked) hl (by omega)]
    rfl

/-- Settles O45: by induction on the ticks; what a tick that counts writes, the last tick writes again. -/
theorem countdownTimesOutOnItsLastTick : Obligations.CountdownTimesOutOnItsLastTick := by
  unfold Obligations.CountdownTimesOutOnItsLastTick
  intro s hd hl
  obtain ⟨hpos, -⟩ := hd.1 hl
  obtain ⟨n, hn⟩ := Nat.exists_eq_add_of_le' hpos
  refine ⟨fun _ => runCommands_ctick_counts hl, ?_⟩
  rw [hn]
  exact runCommands_ctick_timesOut hl hn

end Sys2Proof.Machine

/-! SUPPORT. Proofs of the statements of 43_emission_and_control.md: EMIT in every state, what a step sends and when `dirty`
is cleared, NOP and CLRSTAT. -/

namespace Sys2Proof.Machine

variable {s t : State} {i : Instr} {snap : Snapshot}

/-! ### NOP and CLRSTAT (R86, R87) -/

theorem exec_nop (s : State) : exec .nop s = .next s.quiet := exec_eq_next fun _ => exec_nop_cases

theorem exec_clrstat (s : State) : exec .clrstat s = .next s.clearStatus.quiet := exec_eq_next fun _ => exec_clrstat_cases

/-- Settles O51: the operation codes 0x0 and 0xB with CH and DATA 0, and the one next state of each command. -/
theorem nopAndClrstat : Obligations.NopAndClrstat :=
  ⟨by decide, by decide, fun s => ⟨exec_nop s, exec_clrstat s⟩⟩

/-! ### The cells of EMIT (R83) -/

theorem encode_emit : encode .emit = 0x4000 := by decide

theorem exec_emit_quiet (h : s.dirty = false ∨ s.life = .stopped ∨ s.life = .advertising) :
    exec .emit s = .next s.quiet :=
  exec_eq_next fun _ hu => by obtain hd | hl | hl := h <;> simpa [*] using exec_emit_cases hu

theorem exec_emit_advertises (hd : s.dirty = true) (hl : s.life = .idle) :
    exec .emit s = .next (s.enterAdvertising.out [.tAdvStart] 2) :=
  exec_eq_next fun _ hu => by simpa [hd, hl] using exec_emit_cases hu

theorem exec_emit_accepted (hd : s.dirty = true) (hl : s.life = .connected) (hok : s.ports.sendOk = true) :
    exec .emit s = .next ({ s with dirty := false, axisX := 0, axisY := 0 }.out [.tSend s.snapshot] 1) :=
  exec_eq_next fun _ hu => by simpa [hd, hl, hok] using exec_emit_cases hu

theorem exec_emit_notAccepted (hd : s.dirty = true) (hl : s.life = .connected) (hok : s.ports.sendOk = false) :
    exec .emit s = .next (s.out [.tSend s.snapshot] 0) :=
  exec_eq_next fun _ hu => by simpa [hd, hl, hok] using exec_emit_cases hu

/-- Settles O48: one rule per cell. -/
theorem emitDuty : Obligations.EmitDuty :=
  ⟨encode_emit, fun _ => ⟨exec_emit_quiet, exec_emit_advertises, exec_emit_accepted, exec_emit_notAccepted⟩⟩

/-! ### What a step sends (R84, R85) -/

/-- No command but EMIT puts out `T_SEND`. -/
theorem eq_emit_of_sends (h : exec i s = .next t) (hsend : .tSend snap ∈ t.events) : i = .emit := by
  cases i with
  | emit => rfl
  | nop => simp [exec_nop_cases h] at hsend
  | clrstat => simp [exec_clrstat_cases h] at hsend
  | reservedC low => simp [exec_reservedC_cases h] at hsend
  | reservedD low => simp [exec_reservedD_cases h] at hsend
  | reservedE low => simp [exec_reservedE_cases h] at hsend
  | reservedF low => simp [exec_reservedF_cases h] at hsend
  | start => obtain ⟨-, rfl⟩ | ⟨-, rfl⟩ := exec_start_cases h <;> simp at hsend
  | stop => obtain ⟨-, rfl⟩ | ⟨-, rfl⟩ | ⟨-, -, rfl⟩ := exec_stop_cases h <;> simp at hsend
  | advertise => obtain ⟨-, rfl⟩ | ⟨-, rfl⟩ := exec_advertise_cases h <;> simp at hsend
  | linkUp => obtain ⟨-, rfl⟩ | ⟨-, rfl⟩ := exec_linkUp_cases h <;> simp at hsend
  | linkDown => obtain ⟨-, rfl⟩ | ⟨-, rfl⟩ := exec_linkDown_cases h <;> simp at hsend
  | ctick => obtain ⟨-, rfl⟩ | ⟨-, -, rfl⟩ | ⟨-, -, rfl⟩ := exec_ctick_cases h <;> simp at hsend
  | qdec ch a b => obtain ⟨-, rfl⟩ | ⟨-, -, rfl⟩ | ⟨-, -, rfl⟩ := exec_qdec_cases h <;> simp at hsend
  | dsamp ch r => obtain ⟨-, rfl⟩ | ⟨-, -, rfl⟩ | ⟨-, -, rfl⟩ := exec_dsamp_cases h <;> simp at hsend
  | poll => obtain ⟨-, rfl⟩ | ⟨-, rfl⟩ := exec_poll_cases h <;> simp at hsend

/-- An EMIT that sends: where it does, what it sends, and what an accepted send clears. -/
theorem exec_emit_sends (h : exec .emit s = .next t) (hsend : .tSend snap ∈ t.events) :
    s.life = .connected ∧ s.dirty = true ∧ snap = s.snapshot ∧ t.events = [.tSend snap] ∧
      (s.ports.sendOk = true → t.dirty = false ∧ t.axisX = 0 ∧ t.axisY = 0) := by
  obtain ⟨-, rfl⟩ | ⟨-, -, rfl⟩ | ⟨hd, hl, -, rfl⟩ | ⟨hd, hl, hok, rfl⟩ := exec_emit_cases h
  · simp at hsend
  · simp at hsend
  · obtain rfl : snap = s.snapshot := by simpa using hsend
    simp [hd, hl]
  · obtain rfl : snap = s.snapshot := by simpa using hsend
    simp [hd, hl, hok]

/-- A step that sends is a step of EMIT: a reset and a malformed word put out nothing. -/
theorem step_sends (h : step s = .next t) (hsend : .tSend snap ∈ t.events) :
    s.ports.cmd = 0x4000 ∧ ∃ u, exec .emit s = .next u ∧ t = u.consumed := by
  obtain ⟨-, ⟨-, rfl⟩ | ⟨-, i, u, hi, hu, rfl⟩ | ⟨-, m, -, rfl⟩⟩ := step_cases h
  · simp at hsend
  · obtain rfl := eq_emit_of_sends hu hsend
    exact ⟨(encode_of_decode hi).symm.trans encode_emit, u, hu, rfl⟩
  · simp at hsend

/-- Settles O50: a step that sends is an EMIT, which sends the snapshot of the state it started from. -/
theorem snapshotIsTheStartOfTheStep : Obligations.SnapshotIsTheStartOfTheStep := by
  unfold Obligations.SnapshotIsTheStartOfTheStep
  intro s t snap h hsend
  obtain ⟨-, u, hu, rfl⟩ := step_sends h hsend
  obtain ⟨-, -, rfl, -⟩ := exec_emit_sends hu hsend
  exact ⟨rfl, rfl, rfl, rfl, rfl⟩

/-! ### When `dirty` is cleared (R85) -/

/-- The sampling commands only set `dirty` (41_debounce_sampler.md R68), so of its writers EMIT alone clears it. -/
theorem exec_clears_dirty (h : exec i s = .next t) (hd : s.dirty = true) (hclear : t.dirty = false)
    (hmem : i.mnemonic ∈ ["POLL", "DSAMP", "QDEC", "EMIT"]) :
    i = .emit ∧ s.life = .connected ∧ s.ports.sendOk = true := by
  cases i with
  | poll => obtain ⟨-, rfl⟩ | ⟨-, rfl⟩ := exec_poll_cases h <;> simp [hd] at hclear
  | dsamp ch r => obtain ⟨-, rfl⟩ | ⟨-, -, rfl⟩ | ⟨-, -, rfl⟩ := exec_dsamp_cases h <;> simp [hd] at hclear
  | qdec ch a b => obtain ⟨-, rfl⟩ | ⟨-, -, rfl⟩ | ⟨-, -, rfl⟩ := exec_qdec_cases h <;> simp [hd] at hclear
  | emit =>
    obtain ⟨-, rfl⟩ | ⟨-, -, rfl⟩ | ⟨-, hl, hok, rfl⟩ | ⟨-, -, -, rfl⟩ := exec_emit_cases h
    · simp [hd] at hclear
    · simp [hd] at hclear
    · exact ⟨rfl, hl, hok⟩
    · simp [hd] at hclear
  | _ => simp [Instr.mnemonic] at hmem

/-- Settles O49: a step that sends is an EMIT, and so is one that clears `dirty`; an EMIT with nothing pending is quiet. -/
theorem sendsAndDirty : Obligations.SendsAndDirty := by
  unfold Obligations.SendsAndDirty
  intro s t h hr
  refine ⟨?send, ?clear, ?clean⟩
  case send =>
    intro snap hsend
    obtain ⟨hcmd, u, hu, rfl⟩ := step_sends h hsend
    obtain ⟨hl, hd, -, hev, hok⟩ := exec_emit_sends hu hsend
    exact ⟨hl, hd, hcmd, hev, hok⟩
  case clear =>
    intro hd hclear
    obtain ⟨-, -, -, -, hwriters, -⟩ := fieldsHaveOnlyTheirWriters s t h hr
    obtain ⟨i, hi, hmem⟩ := hwriters (by simp [hd, hclear])
    obtain ⟨u, hu, rfl⟩ := exec_of_step h hr hi
    obtain ⟨rfl, hl, hok⟩ := exec_clears_dirty hu hd hclear hmem
    exact ⟨(encode_of_decode hi).symm.trans encode_emit, hl, hok⟩
  case clean =>
    intro hcmd hd
    obtain ⟨u, hu, rfl⟩ := exec_of_step (i := .emit) h hr (hcmd ▸ decode_encode .emit)
    rw [exec_emit_quiet (.inl hd)] at hu
    rw [← Host.Outcome.next.inj hu]
    rfl

end Sys2Proof.Machine

/-! SUPPORT. Proofs of the statements of 60_exceptions.md: no halt, the gating of STOPPED, the two sticky error bits, the
events of one step, and the merged requests of one period. -/

namespace Sys2Proof.Machine

variable {s t : State} {i : Instr}

/-- Settles O14: a step with a well-formed configuration completes. -/
theorem blockNeverHalts : Obligations.BlockNeverHalts := fun _ => step_completes

/-! ### The gating of STOPPED (R92, R102) -/

section
variable (hl : s.life = .stopped)
include hl

theorem exec_poll_stopped : exec .poll s = .next s.quiet :=
  exec_eq_next fun _ hu => by simpa [hl] using exec_poll_cases hu

theorem exec_qdec_stopped {ch : Nibble} (a b : Bool) (hj : ch.toNat < s.cfg.ne) :
    exec (.qdec ch a b) s = .next s.quiet :=
  exec_eq_next fun _ hu => by simpa [hl, hj, Nat.not_le.2 hj] using exec_qdec_cases hu

/-- A command other than START writes at most the status bits: the range check of QDEC and DSAMP comes before the gating, and
a lifecycle command is ignored. -/
theorem exec_stopped (hi : i ≠ .start) :
    ∃ bad ign, exec i s = .next { s with statusBadcmd := bad, statusIgn := ign }.quiet := by
  cases i with
  | start => exact absurd rfl hi
  | nop => exact ⟨_, _, exec_nop s⟩
  | poll => exact ⟨_, _, exec_poll_stopped hl⟩
  | qdec ch a b =>
    by_cases hj : ch.toNat < s.cfg.ne
    · exact ⟨_, _, exec_qdec_stopped hl a b hj⟩
    · exact ⟨_, _, exec_qdec_outOfRange a b (Nat.not_lt.1 hj)⟩
  | dsamp ch r =>
    by_cases hc : ch.toNat < s.cfg.nch
    · exact ⟨_, _, exec_dsamp_stopped r hc hl⟩
    · exact ⟨_, _, exec_dsamp_outOfRange r (Nat.not_lt.1 hc)⟩
  | emit => exact ⟨_, _, exec_emit_quiet (.inr (.inl hl))⟩
  | ctick => exact ⟨_, _, exec_ctick_quiet (by simp [hl])⟩
  | stop => exact ⟨_, _, exec_stop_stopped hl⟩
  | advertise => exact ⟨_, _, exec_advertise_ignored (by simp [hl])⟩
  | linkUp => exact ⟨_, _, exec_linkUp_ignored (by simp [hl])⟩
  | linkDown => exact ⟨_, _, exec_linkDown_ignored (by simp [hl])⟩
  | clrstat => exact ⟨_, _, exec_clrstat s⟩
  | reservedC low => exact ⟨_, _, rfl⟩
  | reservedD low => exact ⟨_, _, rfl⟩
  | reservedE low => exact ⟨_, _, rfl⟩
  | reservedF low => exact ⟨_, _, rfl⟩

end

/-- Settles O42: each of the five is quiet. -/
theorem dutiesRestInStopped : Obligations.DutiesRestInStopped :=
  fun _ hl => ⟨exec_poll_stopped hl, exec_emit_quiet (.inr (.inl hl)), exec_ctick_quiet (by simp [hl]),
    fun _ a b => exec_qdec_stopped hl a b, fun _ r hc => exec_dsamp_stopped r hc hl⟩

/-- Settles O23: a command other than START writes at most the status bits, and so does a malformed word. -/
theorem stoppedBlockStandsStill : Obligations.StoppedBlockStandsStill := by
  unfold Obligations.StoppedBlockStandsStill
  intro s t h hr hl hcmd
  obtain ⟨-, ⟨hr', -⟩ | ⟨-, i, u, hi, hu, rfl⟩ | ⟨-, m, -, rfl⟩⟩ := step_cases h
  case inl => simp [hr] at hr'
  case inr.inl =>
    have hstart : i ≠ .start := by
      rintro rfl
      exact hcmd (encode_of_decode hi).symm
    obtain ⟨bad, ign, hx⟩ := exec_stopped hl hstart
    obtain rfl := Host.Outcome.next.inj (hu.symm.trans hx)
    rfl
  case inr.inr => rfl

/-! ### The two sticky error bits (R90, R92, R95) -/

/-- The commands that are ignored in the present `life` (R90). -/
def State.ignores (s : State) (i : Instr) : Prop :=
  (i = .start ∧ s.life ≠ .stopped) ∨ (i = .advertise ∧ s.life ≠ .idle) ∨
  (i = .linkUp ∧ s.life ≠ .advertising) ∨ (i = .linkDown ∧ s.life ≠ .connected)

theorem exec_of_ignores (h : s.ignores i) : exec i s = .next s.ignored := by
  obtain ⟨rfl, hl⟩ | ⟨rfl, hl⟩ | ⟨rfl, hl⟩ | ⟨rfl, hl⟩ := h
  · exact exec_start_ignored hl
  · exact exec_advertise_ignored hl
  · exact exec_linkUp_ignored hl
  · exact exec_linkDown_ignored hl

/-- What a command does to the status bits: CLRSTAT clears both, an error is all the command does, and any other effect
leaves both alone. -/
theorem exec_status_cases (h : exec i s = .next t) :
    i = .clrstat ∨ t = s.badCmd ∨ (s.ignores i ∧ t = s.ignored) ∨
    (t.statusBadcmd = s.statusBadcmd ∧ t.statusIgn = s.statusIgn) := by
  cases i with
  | clrstat => exact .inl rfl
  | nop => simp [exec_nop_cases h]
  | reservedC low => exact .inr (.inl (exec_reservedC_cases h))
  | reservedD low => exact .inr (.inl (exec_reservedD_cases h))
  | reservedE low => exact .inr (.inl (exec_reservedE_cases h))
  | reservedF low => exact .inr (.inl (exec_reservedF_cases h))
  | start => obtain ⟨-, rfl⟩ | ⟨hl, rfl⟩ := exec_start_cases h <;> simp [State.ignores, *]
  | advertise => obtain ⟨-, rfl⟩ | ⟨hl, rfl⟩ := exec_advertise_cases h <;> simp [State.ignores, *]
  | linkUp => obtain ⟨-, rfl⟩ | ⟨hl, rfl⟩ := exec_linkUp_cases h <;> simp [State.ignores, *]
  | linkDown => obtain ⟨-, rfl⟩ | ⟨hl, rfl⟩ := exec_linkDown_cases h <;> simp [State.ignores, *]
  | stop => obtain ⟨-, rfl⟩ | ⟨-, rfl⟩ | ⟨-, -, rfl⟩ := exec_stop_cases h <;> simp
  | ctick => obtain ⟨-, rfl⟩ | ⟨-, -, rfl⟩ | ⟨-, -, rfl⟩ := exec_ctick_cases h <;> simp
  | emit => obtain ⟨-, rfl⟩ | ⟨-, -, rfl⟩ | ⟨-, -, -, rfl⟩ | ⟨-, -, -, rfl⟩ := exec_emit_cases h <;> simp
  | qdec ch a b => obtain ⟨-, rfl⟩ | ⟨-, -, rfl⟩ | ⟨-, -, rfl⟩ := exec_qdec_cases h <;> simp
  | dsamp ch r => obtain ⟨-, rfl⟩ | ⟨-, -, rfl⟩ | ⟨-, -, rfl⟩ := exec_dsamp_cases h <;> simp
  | poll => obtain ⟨-, rfl⟩ | ⟨-, rfl⟩ := exec_poll_cases h <;> simp

/-- The same of a step: a reset and CLRSTAT clear both bits, and a malformed word is BadCmd. -/
theorem step_status_cases (h : step s = .next t) :
    ((s.ports.rst = true ∨ s.ports.cmd = 0xB000) ∧ t.statusBadcmd = false ∧ t.statusIgn = false) ∨
    t = s.badCmd.consumed ∨
    ((∃ i, s.ports.cmd = encode i ∧ s.ignores i) ∧ t = s.ignored.consumed) ∨
    (t.statusBadcmd = s.statusBadcmd ∧ t.statusIgn = s.statusIgn) := by
  obtain ⟨-, ⟨hr, rfl⟩ | ⟨-, i, u, hi, hu, rfl⟩ | ⟨-, m, -, rfl⟩⟩ := step_cases h
  case inl => simp [hr]
  case inr.inr => exact .inr (.inl rfl)
  case inr.inl =>
    have hcmd := (encode_of_decode hi).symm
    obtain rfl | rfl | ⟨hign, rfl⟩ | hkeep := exec_status_cases hu
    · exact .inl ⟨.inr hcmd, by simp [exec_clrstat_cases hu]⟩
    · exact .inr (.inl rfl)
    · exact .inr (.inr (.inl ⟨⟨i, hcmd, hign⟩, rfl⟩))
    · exact .inr (.inr (.inr hkeep))

/-- Settles O10: an error only sets bits, and what clears them is shut out. -/
theorem stickyBitsStay : Obligations.StickyBitsStay := by
  unfold Obligations.StickyBitsStay
  intro s t h hr hcmd
  obtain ⟨hr' | hcmd', -⟩ | rfl | ⟨-, rfl⟩ | ⟨hbad, hign⟩ := step_status_cases h
  · simp [hr] at hr'
  · exact absurd hcmd' hcmd
  · exact ⟨fun _ => rfl, id⟩
  · exact ⟨id, fun _ => rfl⟩
  · exact ⟨hbad.trans, hign.trans⟩

/-- Settles O12: BadCmd leaves IGN alone, an ignored command leaves BADCMD alone. -/
theorem oneErrorPerCommand : Obligations.OneErrorPerCommand := by
  unfold Obligations.OneErrorPerCommand
  rintro s t h ⟨hbad0, hbad, hign0, hign⟩
  obtain ⟨-, hclear, -⟩ | rfl | ⟨-, rfl⟩ | ⟨hkeep, -⟩ := step_status_cases h
  · simp [hclear] at hbad
  · simp [hign0] at hign
  · simp [hbad0] at hbad
  · simp [hkeep, hbad0] at hbad

/-- The four words of R90, as the commands they encode. -/
theorem exists_ignores_iff (w : Word) :
    (∃ i, w = encode i ∧ s.ignores i) ↔
      (w = 0x6000 ∧ s.life ≠ .stopped) ∨ (w = 0x8000 ∧ s.life ≠ .idle) ∨
      (w = 0x9000 ∧ s.life ≠ .advertising) ∨ (w = 0xA000 ∧ s.life ≠ .connected) := by
  have hstart : encode .start = 0x6000 := by decide
  have hadv : encode .advertise = 0x8000 := by decide
  have hup : encode .linkUp = 0x9000 := by decide
  have hdown : encode .linkDown = 0xA000 := by decide
  simp [State.ignores, and_or_left, exists_or, and_left_comm, hstart, hadv, hup, hdown]

/-- Settles O11: an ignored command sets IGN alone, and the other three effects on the status bits never raise IGN. -/
theorem ignoredCommands : Obligations.IgnoredCommands := by
  unfold Obligations.IgnoredCommands
  intro s hw hr
  dsimp only
  rw [← exists_ignores_iff]
  refine ⟨?ignored, ?raised⟩
  case ignored =>
    rintro ⟨i, hcmd, hign⟩
    exact step_of_runWord hw hr ((runWord_encode hcmd).trans (exec_of_ignores hign))
  case raised =>
    intro t h hign0 hign
    obtain ⟨-, -, hclear⟩ | rfl | ⟨hcmd, -⟩ | ⟨-, hkeep⟩ := step_status_cases h
    · simp [hclear] at hign
    · simp [hign0] at hign
    · exact hcmd
    · simp [hkeep, hign0] at hign

/-! ### The events of one step (R99) -/

theorem exec_events_cases (h : exec i s = .next t) :
    t.events.length ≤ 1 ∨ (i = .stop ∧ s.life = .advertising ∧ t.events = [.tAdvStop, .tStop]) := by
  cases i with
  | stop => obtain ⟨-, rfl⟩ | ⟨hl, rfl⟩ | ⟨-, -, rfl⟩ := exec_stop_cases h <;> simp [*]
  | nop => simp [exec_nop_cases h]
  | clrstat => simp [exec_clrstat_cases h]
  | reservedC low => simp [exec_reservedC_cases h]
  | reservedD low => simp [exec_reservedD_cases h]
  | reservedE low => simp [exec_reservedE_cases h]
  | reservedF low => simp [exec_reservedF_cases h]
  | start => obtain ⟨-, rfl⟩ | ⟨-, rfl⟩ := exec_start_cases h <;> simp
  | advertise => obtain ⟨-, rfl⟩ | ⟨-, rfl⟩ := exec_advertise_cases h <;> simp
  | linkUp => obtain ⟨-, rfl⟩ | ⟨-, rfl⟩ := exec_linkUp_cases h <;> simp
  | linkDown => obtain ⟨-, rfl⟩ | ⟨-, rfl⟩ := exec_linkDown_cases h <;> simp
  | ctick => obtain ⟨-, rfl⟩ | ⟨-, -, rfl⟩ | ⟨-, -, rfl⟩ := exec_ctick_cases h <;> simp
  | emit => obtain ⟨-, rfl⟩ | ⟨-, -, rfl⟩ | ⟨-, -, -, rfl⟩ | ⟨-, -, -, rfl⟩ := exec_emit_cases h <;> simp
  | qdec ch a b => obtain ⟨-, rfl⟩ | ⟨-, -, rfl⟩ | ⟨-, -, rfl⟩ := exec_qdec_cases h <;> simp
  | dsamp ch r => obtain ⟨-, rfl⟩ | ⟨-, -, rfl⟩ | ⟨-, -, rfl⟩ := exec_dsamp_cases h <;> simp
  | poll => obtain ⟨-, rfl⟩ | ⟨-, rfl⟩ := exec_poll_cases h <;> simp

/-- Settles O24: a reset and a malformed word emit nothing, and of the commands STOP alone can emit two events. -/
theorem eventsOfOneStep : Obligations.EventsOfOneStep := by
  unfold Obligations.EventsOfOneStep
  intro s t h
  obtain ⟨-, ⟨-, rfl⟩ | ⟨-, i, u, hi, hu, rfl⟩ | ⟨-, m, -, rfl⟩⟩ := step_cases h
  case inl => simp
  case inr.inr => simp
  case inr.inl =>
    obtain hle | ⟨rfl, hl, hev⟩ := exec_events_cases hu
    · exact .inl hle
    · exact .inr ⟨hl, (encode_of_decode hi).symm, hev⟩

/-! ### The merged requests of one period (R93) -/

section
variable {is : List Instr} {ev : List Event}

theorem runCommands_completes (is : List Instr) (s : State) : ∃ t ev, runCommands is s = some (t, ev) := by
  induction is generalizing s with
  | nil => exact ⟨s, [], rfl⟩
  | cons i is ih =>
    obtain ⟨u, hu⟩ := exec_completes i s
    obtain ⟨t, ev, hrun⟩ := ih u
    exact ⟨t, u.events ++ ev, by rw [runCommands_cons hu, hrun]; rfl⟩

theorem runCommands_cons_cases (h : runCommands (i :: is) s = some (t, ev)) :
    ∃ u ev', exec i s = .next u ∧ runCommands is u = some (t, ev') := by
  obtain ⟨u, hu⟩ := exec_completes i s
  obtain ⟨t', ev', hrun⟩ := runCommands_completes is u
  rw [runCommands_cons hu, hrun] at h
  obtain ⟨rfl, -⟩ := Prod.mk.inj (Option.some.inj h)
  exact ⟨u, ev', hu, hrun⟩

/-- What every command of the run keeps holds at its end. -/
theorem runCommands_keeps {P : State → Prop} (hP : ∀ i ∈ is, ∀ s t, P s → exec i s = .next t → P t)
    (h : runCommands is s = some (t, ev)) (hs : P s) : P t := by
  induction is generalizing s ev with
  | nil =>
    obtain ⟨rfl, -⟩ := Prod.mk.inj (Option.some.inj h)
    exact hs
  | cons i is ih =>
    obtain ⟨u, ev', hu, hrun⟩ := runCommands_cons_cases h
    obtain ⟨hi, his⟩ := List.forall_mem_cons.1 hP
    exact ih his hrun (hi s u hs hu)

theorem runCommands_stop_last (h : runCommands (is ++ [.stop]) s = some (t, ev)) : t.life = .stopped := by
  induction is generalizing s ev with
  | nil =>
    obtain ⟨u, ev', hu, hrun⟩ := runCommands_cons_cases h
    obtain ⟨rfl, -⟩ := Prod.mk.inj (Option.some.inj hrun)
    exact exec_stop_life hu
  | cons i is ih =>
    obtain ⟨u, ev', -, hrun⟩ := runCommands_cons_cases h
    exact ih hrun

/-- Of the requests, LINK_DOWN and STOP alone end a connection. -/
theorem exec_keeps_connected (hmem : i ∈ mergeOrder) (hdown : i ≠ .linkDown) (hstop : i ≠ .stop)
    (hl : s.life = .connected) (h : exec i s = .next t) : t.life = .connected := by
  have hwriters : ∀ i ∈ mergeOrder,
      i = .poll ∨ i.mnemonic ∈ ["START", "STOP", "ADVERTISE", "LINK_UP", "LINK_DOWN", "CTICK", "EMIT"] := by decide
  obtain rfl | hwrites := hwriters i hmem
  · obtain ⟨-, rfl⟩ | ⟨-, rfl⟩ := exec_poll_cases h <;> exact hl
  · by_contra hmove
    have hmoves := exec_moves_life h (by rwa [hl]) hwrites
    simp [hl, hdown, hstop] at hmoves

/-- STOP comes last in the merge order. -/
theorem eq_append_stop_of_merged (h : is.Sublist mergeOrder) (hstop : .stop ∈ is) : ∃ is', is = is' ++ [.stop] := by
  obtain ⟨is', last, rfl, hfront, hlast⟩ :=
    List.sublist_append_iff.1 (show is.Sublist (mergeOrder.dropLast ++ [.stop]) from h)
  obtain rfl | rfl := List.sublist_singleton.1 hlast
  · rw [List.append_nil] at hstop
    exact absurd (hfront.subset hstop) (by decide)
  · exact ⟨is', rfl⟩

theorem eq_cons_linkUp_of_sublist (h : is.Sublist (.linkUp :: mergeOrder.drop 2)) (hup : .linkUp ∈ is) :
    ∃ is', is = .linkUp :: is' ∧ is'.Sublist (mergeOrder.drop 2) := by
  obtain hrest | hfirst := List.sublist_cons_iff.1 h
  · exact absurd (hrest.subset hup) (by decide)
  · exact hfirst

/-- At most a LINK_DOWN comes before LINK_UP in the merge order. -/
theorem eq_cons_linkUp_of_merged (h : is.Sublist mergeOrder) (hup : .linkUp ∈ is) :
    ∃ is', (is = .linkUp :: is' ∨ is = .linkDown :: .linkUp :: is') ∧ is'.Sublist (mergeOrder.drop 2) := by
  obtain hrest | ⟨l, rfl, hrest⟩ := List.sublist_cons_iff.1 h
  · obtain ⟨is', rfl, his⟩ := eq_cons_linkUp_of_sublist hrest hup
    exact ⟨is', .inl rfl, his⟩
  · obtain ⟨is', rfl, his⟩ := eq_cons_linkUp_of_sublist hrest (by simpa using hup)
    exact ⟨is', .inr rfl, his⟩

/-- LINK_UP from ADVERTISING connects, and the requests after it but STOP leave the link up. -/
theorem runCommands_linkUp_connects (his : is.Sublist (mergeOrder.drop 2)) (hstop : .stop ∉ is)
    (hl : s.life = .advertising) (h : runCommands (.linkUp :: is) s = some (t, ev)) : t.life = .connected := by
  obtain ⟨u, ev', hu, hrun⟩ := runCommands_cons_cases h
  obtain rfl := Host.Outcome.next.inj ((exec_linkUp_advertising hl).symm.trans hu)
  refine runCommands_keeps (P := fun s => s.life = .connected) (fun i hi s t hs hx => ?_) hrun rfl
  have hmem : i ∈ mergeOrder.drop 2 := his.subset hi
  have hdown : i ≠ .linkDown := by
    rintro rfl
    exact absurd hmem (by decide)
  have hne : i ≠ .stop := by
    rintro rfl
    exact hstop hi
  exact exec_keeps_connected (List.mem_of_mem_drop hmem) hdown hne hs hx

end

/-- Settles O47: STOP comes last; a LINK_DOWN before LINK_UP is ignored in ADVERTISING, and CTICK comes after LINK_UP. -/
theorem mergedPeriodOutcome : Obligations.MergedPeriodOutcome := by
  unfold Obligations.MergedPeriodOutcome
  intro s cmds hcmds
  obtain ⟨t, ev, hrun⟩ := runCommands_completes cmds s
  refine ⟨t, ev, hrun, ?stops, ?connects⟩
  case stops =>
    intro hstop
    obtain ⟨is, rfl⟩ := eq_append_stop_of_merged hcmds hstop
    exact runCommands_stop_last hrun
  case connects =>
    intro hl hup hstop
    obtain ⟨is, rfl | rfl, his⟩ := eq_cons_linkUp_of_merged hcmds hup
    · exact runCommands_linkUp_connects his (by simpa using hstop) hl hrun
    · obtain ⟨u, ev', hu, hrun'⟩ := runCommands_cons_cases hrun
      obtain rfl := Host.Outcome.next.inj ((exec_linkDown_ignored (by simp [hl])).symm.trans hu)
      exact runCommands_linkUp_connects (s := s.ignored) his (by simpa using hstop) hl hrun'

end Sys2Proof.Machine

/-! SUPPORT. Proofs of the statements of 70_reset_and_hazards.md: the state after a reset, STOP as no reset, and the
transport's notifications. -/

namespace Sys2Proof.Machine

variable {s : State}

/-! ### Reset (R103) -/

theorem step_reset (hw : s.cfg.wf = true) (hr : s.ports.rst = true) : step s = .next s.powerOnReset.consumed := by
  simp [step, hw, hr, endStep]

/-! After a reset a record reads as 0 at every index: the lists are filled with the value that is read beyond their end. -/

@[simp] theorem State.powerOnReset_button (s : State) : ∀ i, s.powerOnReset.button i = 0 :=
  List.getElem?_getD_replicate_default_eq _ s.cfg.nb

@[simp] theorem State.powerOnReset_encoder (s : State) : ∀ j, s.powerOnReset.encoder j = 0 :=
  List.getElem?_getD_replicate_default_eq _ s.cfg.ne

@[simp] theorem State.powerOnReset_prevCode (s : State) : ∀ j, s.powerOnReset.prevCode j = 0 :=
  List.getElem?_getD_replicate_default_eq _ s.cfg.ne

@[simp] theorem State.powerOnReset_seeded (s : State) : ∀ j, s.powerOnReset.seeded j = false :=
  List.getElem?_getD_replicate_default_eq _ s.cfg.ne

@[simp] theorem State.powerOnReset_stable (s : State) : ∀ c, s.powerOnReset.stable c = false :=
  List.getElem?_getD_replicate_default_eq _ s.cfg.nch

@[simp] theorem State.powerOnReset_count (s : State) : ∀ c, s.powerOnReset.count c = 0 :=
  List.getElem?_getD_replicate_default_eq _ s.cfg.nch

/-- Settles O16: the step answers the reset state; its lists have the lengths the invariant after reset gives them. -/
theorem resetStepSetsEveryField : Obligations.ResetStepSetsEveryField := by
  unfold Obligations.ResetStepSetsEveryField
  intro s hw hr
  have hshape : s.powerOnReset.consumed.Shape := { (resetFor_inv hw).shape with }
  exact ⟨_, step_reset hw hr, rfl, hshape,
    s.powerOnReset_button, rfl, s.powerOnReset_encoder, rfl, rfl, rfl, rfl, rfl,
    fun j => ⟨s.powerOnReset_prevCode j, s.powerOnReset_seeded j⟩,
    fun c => ⟨s.powerOnReset_stable c, s.powerOnReset_count c⟩, rfl, rfl, rfl⟩

/-- Settles O17: the defaults have six slots and channels and two encoders, and each of the six channels is KEY. -/
theorem resetStateOfTheDefaults : Obligations.ResetStateOfTheDefaults := by
  unfold Obligations.ResetStateOfTheDefaults
  refine ⟨rfl, rfl, rfl, rfl, rfl, rfl, rfl, rfl, rfl, rfl, rfl, rfl, rfl, rfl, rfl, ?_⟩
  decide

/-- Settles O20: the defaults are well-formed. -/
theorem resetMeetsTheInvariant : Obligations.ResetMeetsTheInvariant := by
  have hdefault : Config.default.wf = true := by decide
  exact ⟨fun _ => resetFor_inv, resetFor_inv hdefault⟩

/-! ### STOP is no reset (R104) -/

/-- In STOPPED nothing is seeded (42_connection_lifecycle.md R80 (f)), as one list. -/
theorem State.Inv.qSeeded_of_stopped (h : s.Inv) (hl : s.life = .stopped) :
    s.qSeeded = List.replicate s.cfg.ne false := by
  refine List.eq_replicate_iff.2 ⟨h.shape.qSeeded, fun b hb => ?_⟩
  obtain ⟨j, hj, rfl⟩ := List.getElem_of_mem hb
  have hseed : s.seeded j = false := h.unseeded hl j (h.shape.qSeeded ▸ hj)
  simpa [State.seeded, hj] using hseed

/-- A stopped block is switched off already. -/
theorem State.Inv.switchedOff_of_stopped (h : s.Inv) (hl : s.life = .stopped) : s.switchedOff = s := by
  rw [h.deadline.switchedOff_eq (by simp [hl]), ← h.qSeeded_of_stopped hl, ← hl]

theorem exec_stop_switchesOff (h : s.Inv) : ∃ ev, exec .stop s = .next (s.switchedOff.out ev 0) := by
  by_cases hl : s.life = .stopped
  · exact ⟨[], by rw [h.switchedOff_of_stopped hl]; exact exec_stop_stopped hl⟩
  by_cases hadv : s.life = .advertising
  · exact ⟨_, exec_stop_advertising hadv⟩
  · exact ⟨_, exec_stop_running hl hadv⟩

/-- Settles O46: from any life STOP switches the block off, which writes `life`, `deadline` and the seeds alone. -/
theorem stopIsNoReset : Obligations.StopIsNoReset := by
  unfold Obligations.StopIsNoReset
  intro s h
  obtain ⟨ev, hx⟩ := exec_stop_switchesOff h
  exact ⟨ev, by rw [hx, switchedOff_eq_replicate]; rfl⟩

/-! ### The transport's notifications (R110) -/

/-- Settles O13: the duty names the one life in which the notification acts. -/
theorem dutifulNotificationsAreTracked : Obligations.DutifulNotificationsAreTracked := by
  unfold Obligations.DutifulNotificationsAreTracked State.transportDuty
  intro s
  refine ⟨fun ⟨hup, _⟩ => ?linkUp, fun ⟨_, hdown⟩ => ?linkDown⟩
  case linkUp =>
    have hl : s.life = .advertising := hup rfl
    exact ⟨_, exec_linkUp_advertising hl, by simp [hl], rfl⟩
  case linkDown =>
    have hl : s.life = .connected := hdown rfl
    exact ⟨_, exec_linkDown_connected hl, by simp [hl], rfl⟩

end Sys2Proof.Machine
